-- ==== Sys2Proof/Word.lean ====
section
/-! DEFINITION. The words of OSB-CORE: readings, sums and event words, at the widths of 10_state.md rule R11 and of
30_encoding.md rule R56. A tick count has no fixed width: its width `TICK_W` is a parameter (00_scope.md R5), so it
is a natural number that every operation reduces modulo 2^`TICK_W`. -/

namespace Sys2Proof

/-- One reading of the converter: `ADC_W` = 10 bits, unsigned, 0 to 1023 (00_scope.md R4). -/
abbrev Reading := BitVec 10

/-- The maintained sum of a filter of depth 2^k: 13 bits for depth 8, 14 bits for depth 16 (10_state.md R11). -/
abbrev SumWord (k : Nat) := BitVec (k + 10)

/-- One encoded trace event (30_encoding.md R65). -/
abbrev EventWord := BitVec 16

end Sys2Proof
end

