-- ==== Sys2Proof/Syntax.lean ====
section
/-! DEFINITION. The enumerations of the spec, the four environment events, and the operations of
spec/opcode_table.json: one constructor of `Instr` per row. -/

namespace Sys2Proof

/-- `fanMode` (10_state.md R26): standard single-ended or high-sensitivity differential. -/
inductive FanMode where
  | std
  | hs
deriving DecidableEq, Repr, Inhabited

/-- `muxCfg` (10_state.md R21, 30_encoding.md R62). -/
inductive MuxCfg where
  | photo
  | fanStd
  | fanHsSig
  | fanHsRef
deriving DecidableEq, Repr, Inhabited

/-- The OutputLevel (10_state.md R32, 30_encoding.md R63), in the order Off, Approaching, On, Saturated. -/
inductive Level where
  | off
  | approaching
  | on
  | saturated
deriving DecidableEq, Repr, Inhabited

/-- `lstep`, the LOOP agent's program counter (10_state.md R31): seven values, code 7 never occurs. -/
inductive LStep where
  | ls0
  | ls1
  | ls2
  | ls3
  | ls4
  | ls5
  | ls6
deriving DecidableEq, Repr, Inhabited

/-- The five filters by buffer id 0 to 4 (10_state.md R10). -/
inductive BufId where
  | near
  | far
  | amb
  | fanSig
  | fanRef
deriving DecidableEq, Repr, Inhabited

/-- The eight slot classes of the schedule (30_encoding.md R57). -/
inductive SlotClass where
  | ph0Fan
  | phAmb
  | phFar
  | phNear
  | ph11FarMuxfan
  | ph12Near
  | phDiscard
  | ph15Muxphoto
deriving DecidableEq, Repr, Inhabited

/-- The order of the two output-line writes of one iteration (42_classifier.md R102). -/
inductive LineOrder where
  | aFirst
  | bFirst
deriving DecidableEq, Repr, Inhabited

/-- The parameter `OUT_ORDER` (00_scope.md R5). -/
inductive OutOrder where
  | aFirst
  | bFirst
  | any
deriving DecidableEq, Repr, Inhabited

/-- Where a control word routes the reading (30_encoding.md R60): codes 0 to 4. -/
inductive Route where
  | none
  | near
  | far
  | amb
  | fan
deriving DecidableEq, Repr, Inhabited

/-- The control word of one phase, field by field (30_encoding.md R60). -/
structure ControlWord where
  route : Route
  farSet : Bool
  farClr : Bool
  nearSet : Bool
  nearClr : Bool
  muxFan : Bool
  muxPhoto : Bool
deriving DecidableEq, Repr, Inhabited

/-- The three formats (30_encoding.md R56). Each is decoded from its own selector: `tick[4:0]`, `lstep`,
or a word of the event trace. -/
inductive Format where
  | phase5
  | lstep3
  | evt16
deriving DecidableEq, Repr, Inhabited

/-- What the environment can make the block do (30_encoding.md R65): one event, with the input it carries. -/
inductive Event where
  | reset (hs : Bool)
  | start
  | tick (v : Reading)
  | loop (m : Bool)
deriving DecidableEq, Repr, Inhabited

/-- The operations of spec/opcode_table.json, one constructor per row: the sixteen phases (operand: the
outer-cycle bit `b`), the seven loop steps, the four events. -/
inductive Instr where
  | ph0Fan (b : Bool)
  | phAmb1 (b : Bool)
  | phFar2 (b : Bool)
  | phNear3 (b : Bool)
  | phAmb4 (b : Bool)
  | phFar5 (b : Bool)
  | phNear6 (b : Bool)
  | phAmb7 (b : Bool)
  | phFar8 (b : Bool)
  | phNear9 (b : Bool)
  | phAmb10 (b : Bool)
  | ph11FarMuxfan (b : Bool)
  | ph12Near (b : Bool)
  | phDiscard13 (b : Bool)
  | phDiscard14 (b : Bool)
  | ph15Muxphoto (b : Bool)
  | ls0Snap3
  | ls1Classify
  | ls2Outw1
  | ls3Outw2
  | ls4Ticksnap
  | ls5Gate
  | ls6Fancheck
  | reset (hs : Bool)
  | start
  | tick (v : Reading)
  | loop (m : Bool)
deriving DecidableEq, Repr, Inhabited

/-- The operation an event stands for. -/
def Event.instr : Event → Instr
  | .reset hs => .reset hs
  | .start => .start
  | .tick v => .tick v
  | .loop m => .loop m

/-- The operation `lstep` names (30_encoding.md R64). -/
def LStep.instr : LStep → Instr
  | .ls0 => .ls0Snap3
  | .ls1 => .ls1Classify
  | .ls2 => .ls2Outw1
  | .ls3 => .ls3Outw2
  | .ls4 => .ls4Ticksnap
  | .ls5 => .ls5Gate
  | .ls6 => .ls6Fancheck

/-- The format of an operation (30_encoding.md R56). -/
def Instr.format : Instr → Format
  | .ph0Fan _ | .phAmb1 _ | .phFar2 _ | .phNear3 _ | .phAmb4 _ | .phFar5 _ | .phNear6 _ | .phAmb7 _
  | .phFar8 _ | .phNear9 _ | .phAmb10 _ | .ph11FarMuxfan _ | .ph12Near _ | .phDiscard13 _ | .phDiscard14 _
  | .ph15Muxphoto _ => .phase5
  | .ls0Snap3 | .ls1Classify | .ls2Outw1 | .ls3Outw2 | .ls4Ticksnap | .ls5Gate | .ls6Fancheck => .lstep3
  | .reset _ | .start | .tick _ | .loop _ => .evt16

/-- The width of a format's selector in bits (30_encoding.md R56). -/
def Format.width : Format → Nat
  | .phase5 => 5
  | .lstep3 => 3
  | .evt16 => 16

end Sys2Proof
end

