-- ==== Sys2Proof/Config.lean ====
section
/-! DEFINITION. The parameters of 00_scope.md rules R4 and R5, and the free values: constants without a
body, which no proof can evaluate. -/

namespace Sys2Proof.Config

/-! ### Parameters the source fixes (00_scope.md R4) -/

/-- `ADC_W`. -/
def adcW : Nat := 10
/-- `ADC_MAX`. -/
def adcMax : Nat := 1023
/-- `D_IR`, the depth of the near, far and ambient filters. -/
def dIr : Nat := 8
/-- `D_FAN`, the depth of the fan-signal and fan-reference filters. -/
def dFan : Nat := 16
/-- `SAT_THR` = 870 × `D_IR`. -/
def satThr : Nat := 870 * dIr
/-- `NEAR_THR` = 30 × `D_IR`. -/
def nearThr : Nat := 30 * dIr
/-- `FAR_THR` = 10 × `D_IR`. -/
def farThr : Nat := 10 * dIr
/-- `APPROACH_NUM`. -/
def approachNum : Nat := 6
/-- `APPROACH_DEN`. -/
def approachDen : Nat := 5
/-- `INNER_CYCLE`. -/
def innerCycle : Nat := 16
/-- `OUTER_CYCLE`. -/
def outerCycle : Nat := 32
/-- `FAN_CHECK_DIV`. -/
def fanCheckDiv : Nat := 16

/-! ### Open parameters without a default (00_scope.md R5): free constants, log 5, log 6 and log 23 -/

/-- One threshold profile of the fan controller (43_fan.md R119). -/
structure FanProfile where
  connThr : Nat
  offThr : Nat
  onThr : Nat
deriving DecidableEq, Repr, Inhabited

/-- `CONN_THR[m]`, `OFF_THR[m]`, `ON_THR[m]`. -/
opaque fanProfile : FanMode → FanProfile

/-- `ON_SECONDS` less one: `ON_SECONDS` is a natural number of at least 1 (92_eei_decisions.md D30). -/
opaque onSecondsLessOne : Nat

/-- `FANREF_INIT[0..15]`. -/
opaque fanrefInit : Vector Reading 16

/-- `WDT_PERIOD`, in ticks. -/
opaque wdtPeriod : Nat

/-! ### The parameters as arguments (00_scope.md R5; log 3, log 4) -/

/-- The parameters of 00_scope.md rule R5, each with its default where the spec gives one. The machine takes them
as data: a state carries them, no operation changes them, and a claim about every state is a claim about all their
values. -/
structure Params where
  tickW : Nat := 16
  timerFreq : Nat := 8000
  fanInterval : Nat := timerFreq / fanCheckDiv
  fanCheckFreq : Nat := 16
  onSeconds : Nat
  std : FanProfile
  hs : FanProfile
  fanrefInit : Vector Reading 16
  wdtPeriod : Nat
  outOrder : OutOrder := .any
deriving DecidableEq, Repr, Inhabited

/-- The profile of a fan mode (43_fan.md R110). -/
def Params.profile (p : Params) : FanMode → FanProfile
  | .std => p.std
  | .hs => p.hs

/-- `DEBOUNCE_RELOAD` = `ON_SECONDS × FAN_CHECK_FREQ − 1` (00_scope.md R5). -/
def Params.debounceReload (p : Params) : Nat := p.onSeconds * p.fanCheckFreq - 1

/-- The number of values a tick count has, 2^`TICK_W`. -/
def Params.tickRange (p : Params) : Nat := 2 ^ p.tickW

/-- The parameters the machine has at power-on: the defaults, and the free constants where there is none. -/
def params : Params where
  onSeconds := onSecondsLessOne + 1
  std := fanProfile .std
  hs := fanProfile .hs
  fanrefInit := fanrefInit
  wdtPeriod := wdtPeriod

/-! ### Free values: what the environment does next (log 1), and the order of the line writes (log 2) -/

/-- The n-th event the environment chooses by itself, when no trace is queued (00_scope.md R8). -/
opaque envEvent : Nat → Event

/-- The order of the two line writes of the n-th iteration under `OUT_ORDER` = `ANY` (42_classifier.md R102). -/
opaque anyOrder : Nat → LineOrder

end Sys2Proof.Config
end

