-- ==== Sys2Proof/WellFormed.lean ====
section
/-! DEFINITION. Which terms are well formed: instructions, the raw 9-bit control words of 30_encoding.md rule R60
(93_implementation_defined.md part 2), and the parameters of 00_scope.md rule R5. -/

namespace Sys2Proof

/-- An instruction is well formed. The operand types leave no ill-formed one: every value of the outer-cycle
bit selects the same slot (30_encoding.md R59), `hs` and `m` are one bit, and a reading is 10 bits wide, so
that a reading above 1023 cannot be written (92_eei_decisions.md D3). -/
def Instr.wf : Instr → Bool
  | .ph0Fan _ | .phAmb1 _ | .phFar2 _ | .phNear3 _ | .phAmb4 _ | .phFar5 _ | .phNear6 _ | .phAmb7 _
  | .phFar8 _ | .phNear9 _ | .phAmb10 _ | .ph11FarMuxfan _ | .ph12Near _ | .phDiscard13 _ | .phDiscard14 _
  | .ph15Muxphoto _ => true
  | .ls0Snap3 | .ls1Classify | .ls2Outw1 | .ls3Outw2 | .ls4Ticksnap | .ls5Gate | .ls6Fancheck => true
  | .reset _ | .start | .loop _ => true
  | .tick v => v.toNat ≤ 1023

/-- `route` names a filter or none: codes 5 to 7 are unused. -/
def ControlWord.routeOk (w : BitVec 9) : Bool := (w.extractLsb' 0 3).toNat ≤ 4

/-- No word sets and clears the far emitter. -/
def ControlWord.farOk (w : BitVec 9) : Bool := !(w.getLsbD 3 && w.getLsbD 4)

/-- No word sets and clears the near emitter. -/
def ControlWord.nearOk (w : BitVec 9) : Bool := !(w.getLsbD 5 && w.getLsbD 6)

/-- No word has both multiplexer bits. -/
def ControlWord.muxOk (w : BitVec 9) : Bool := !(w.getLsbD 7 && w.getLsbD 8)

/-- A raw control word is well formed. -/
def ControlWord.wf (w : BitVec 9) : Bool :=
  ControlWord.routeOk w && ControlWord.farOk w && ControlWord.nearOk w && ControlWord.muxOk w

/-! ### The constraints of 00_scope.md R5 on the parameters -/

/-- `TICK_W` ≥ 5: the schedule needs five bits. -/
def Config.Params.tickWOk (p : Config.Params) : Bool := 5 ≤ p.tickW

/-- `TIMER_FREQ` ≥ 16. -/
def Config.Params.timerFreqOk (p : Config.Params) : Bool := 16 ≤ p.timerFreq

/-- 1 ≤ `FAN_INTERVAL`, and 2^`TICK_W` > 2 × `FAN_INTERVAL`. -/
def Config.Params.fanIntervalOk (p : Config.Params) : Bool := 1 ≤ p.fanInterval && 2 * p.fanInterval < p.tickRange

/-- `ON_SECONDS` ≥ 1. -/
def Config.Params.onSecondsOk (p : Config.Params) : Bool := 1 ≤ p.onSeconds

/-- `FAN_CHECK_FREQ` ≥ 1, without which `DEBOUNCE_RELOAD` is no natural number. DEDUCED, log 4. -/
def Config.Params.fanCheckFreqOk (p : Config.Params) : Bool := 1 ≤ p.fanCheckFreq

/-- The parameters meet every constraint. What R5 calls expected, advised or needed for the device to stay up is no
constraint. -/
def Config.Params.wf (p : Config.Params) : Bool :=
  p.tickWOk && p.timerFreqOk && p.fanIntervalOk && p.onSecondsOk && p.fanCheckFreqOk

end Sys2Proof
end

