-- ==== Sys2Proof/Decode.lean ====
section
/-! DEFINITION. Decoding of the three formats (30_encoding.md R56, R57, R59, R64, R65) and of the control
word (R60), total, rejecting by name; then the encoder; then the two functions over the words of
spec/opcode_table.json. -/

namespace Sys2Proof

/-- Why a word is rejected. -/
inductive Reject where
  /-- An `EVT16` kind of 4 to 15 (30_encoding.md R65). -/
  | reservedKind
  /-- A nonzero bit in a field marked "zero" (30_encoding.md R59). -/
  | nonzeroField
  /-- `LSTEP3` code 7 (30_encoding.md R59). -/
  | unusedLstep
  /-- A bit above the format's width. -/
  | tooWide
  /-- A control word with an unused route code or with both bits of a pair set (30_encoding.md R60). -/
  | badControlWord
deriving DecidableEq, Repr, Inhabited

/-! ### The fields of the slot selector -/

/-- `tick[4:0]`, the slot selector: the bits above take no part (30_encoding.md R56). -/
def selectorOf (t : Nat) : BitVec 5 := BitVec.ofNat 5 t

/-- `p`, bits 3:0 of the selector. -/
def phaseOf (sel : BitVec 5) : BitVec 4 := sel.extractLsb' 0 4

/-- `b`, bit 4 of the selector. -/
def outerOf (sel : BitVec 5) : Bool := sel.getLsbD 4

/-- The slot class of a phase: the table of 30_encoding.md R57. -/
def slotClass (p : BitVec 4) : SlotClass :=
  match p.toNat with
  | 0 => .ph0Fan
  | 1 | 4 | 7 | 10 => .phAmb
  | 2 | 5 | 8 => .phFar
  | 3 | 6 | 9 => .phNear
  | 11 => .ph11FarMuxfan
  | 12 => .ph12Near
  | 13 | 14 => .phDiscard
  | _ => .ph15Muxphoto

/-! ### The three decoders -/

/-- `PHASE5`: every one of the 32 values selects a slot (30_encoding.md R59). -/
def decodePhase5 (sel : BitVec 5) : Instr :=
  match (phaseOf sel).toNat with
  | 0 => .ph0Fan (outerOf sel)
  | 1 => .phAmb1 (outerOf sel)
  | 2 => .phFar2 (outerOf sel)
  | 3 => .phNear3 (outerOf sel)
  | 4 => .phAmb4 (outerOf sel)
  | 5 => .phFar5 (outerOf sel)
  | 6 => .phNear6 (outerOf sel)
  | 7 => .phAmb7 (outerOf sel)
  | 8 => .phFar8 (outerOf sel)
  | 9 => .phNear9 (outerOf sel)
  | 10 => .phAmb10 (outerOf sel)
  | 11 => .ph11FarMuxfan (outerOf sel)
  | 12 => .ph12Near (outerOf sel)
  | 13 => .phDiscard13 (outerOf sel)
  | 14 => .phDiscard14 (outerOf sel)
  | _ => .ph15Muxphoto (outerOf sel)

/-- The loop step of a 3-bit code (30_encoding.md R64): code 7 names none. -/
def LStep.ofCode (c : BitVec 3) : Option LStep :=
  match c.toNat with
  | 0 => some .ls0
  | 1 => some .ls1
  | 2 => some .ls2
  | 3 => some .ls3
  | 4 => some .ls4
  | 5 => some .ls5
  | 6 => some .ls6
  | _ => none

/-- `LSTEP3` (30_encoding.md R64). -/
def decodeLstep3 (c : BitVec 3) : Except Reject Instr :=
  match LStep.ofCode c with
  | some l => .ok l.instr
  | none => .error .unusedLstep

/-- `EVT16`: kind in bits 15:12, operand below it, every other bit zero (30_encoding.md R65). -/
def decodeEvt16 (w : EventWord) : Except Reject Instr :=
  match (w.extractLsb' 12 4).toNat with
  | 0 => if w.extractLsb' 1 11 = 0 then .ok (.reset (w.getLsbD 0)) else .error .nonzeroField
  | 1 => if w.extractLsb' 0 12 = 0 then .ok .start else .error .nonzeroField
  | 2 => if w.extractLsb' 10 2 = 0 then .ok (.tick (w.extractLsb' 0 10)) else .error .nonzeroField
  | 3 => if w.extractLsb' 1 11 = 0 then .ok (.loop (w.getLsbD 0)) else .error .nonzeroField
  | _ => .error .reservedKind

/-- The decoder of a format, on a 16-bit word: a bit above the format's width is rejected. -/
def decode (f : Format) (w : BitVec 16) : Except Reject Instr :=
  match f with
  | .phase5 => if w.toNat < 32 then .ok (decodePhase5 (w.extractLsb' 0 5)) else .error .tooWide
  | .lstep3 => if w.toNat < 8 then decodeLstep3 (w.extractLsb' 0 3) else .error .tooWide
  | .evt16 => decodeEvt16 w

/-- The route of a 3-bit code (30_encoding.md R60). -/
def Route.ofCode (c : BitVec 3) : Option Route :=
  match c.toNat with
  | 0 => some .none
  | 1 => some .near
  | 2 => some .far
  | 3 => some .amb
  | 4 => some .fan
  | _ => none

/-- The control word of 9 bits, field by field (30_encoding.md R60); an ill-formed one is refused. -/
def decodeControl (w : BitVec 9) : Except Reject ControlWord :=
  match ControlWord.wf w, Route.ofCode (w.extractLsb' 0 3) with
  | true, some r => .ok ⟨r, w.getLsbD 3, w.getLsbD 4, w.getLsbD 5, w.getLsbD 6, w.getLsbD 7, w.getLsbD 8⟩
  | _, _ => .error .badControlWord

/-! ### The codes of the enumerations -/

/-- `muxCfg` codes (30_encoding.md R62). -/
def MuxCfg.code : MuxCfg → BitVec 2
  | .photo => 0
  | .fanStd => 1
  | .fanHsSig => 2
  | .fanHsRef => 3

/-- OutputLevel codes (30_encoding.md R63). -/
def Level.code : Level → BitVec 2
  | .off => 0
  | .approaching => 1
  | .on => 2
  | .saturated => 3

/-- `lstep` codes (30_encoding.md R64). -/
def LStep.code : LStep → BitVec 3
  | .ls0 => 0
  | .ls1 => 1
  | .ls2 => 2
  | .ls3 => 3
  | .ls4 => 4
  | .ls5 => 5
  | .ls6 => 6

/-- `fanMode` codes (10_state.md R26). -/
def FanMode.code : FanMode → BitVec 1
  | .std => 0
  | .hs => 1

/-- The mode a strap level latches (10_state.md R26): 1 selects HS. -/
def FanMode.ofStrap (hs : Bool) : FanMode := if hs then .hs else .std

/-- Buffer ids (10_state.md R10). -/
def BufId.code : BufId → Nat
  | .near => 0
  | .far => 1
  | .amb => 2
  | .fanSig => 3
  | .fanRef => 4

/-! ### The encoder -/

/-- `{b, p}` as a word (30_encoding.md R56). -/
def phaseWord (b : Bool) (p : Nat) : BitVec 16 := BitVec.ofNat 16 (p + if b then 16 else 0)

/-- The word of an operation in its own format, zero above the format's width. -/
def encode : Instr → BitVec 16
  | .ph0Fan b => phaseWord b 0
  | .phAmb1 b => phaseWord b 1
  | .phFar2 b => phaseWord b 2
  | .phNear3 b => phaseWord b 3
  | .phAmb4 b => phaseWord b 4
  | .phFar5 b => phaseWord b 5
  | .phNear6 b => phaseWord b 6
  | .phAmb7 b => phaseWord b 7
  | .phFar8 b => phaseWord b 8
  | .phNear9 b => phaseWord b 9
  | .phAmb10 b => phaseWord b 10
  | .ph11FarMuxfan b => phaseWord b 11
  | .ph12Near b => phaseWord b 12
  | .phDiscard13 b => phaseWord b 13
  | .phDiscard14 b => phaseWord b 14
  | .ph15Muxphoto b => phaseWord b 15
  | .ls0Snap3 => 0
  | .ls1Classify => 1
  | .ls2Outw1 => 2
  | .ls3Outw2 => 3
  | .ls4Ticksnap => 4
  | .ls5Gate => 5
  | .ls6Fancheck => 6
  | .reset hs => BitVec.setWidth 16 (BitVec.ofBool hs)
  | .start => 0x1000
  | .tick v => 0x2000 ||| v.setWidth 16
  | .loop m => 0x3000 ||| BitVec.setWidth 16 (BitVec.ofBool m)

/-- The word of an environment event. -/
def Event.word (e : Event) : EventWord := encode e.instr

/-! ### The words of spec/opcode_table.json -/

/-- The format a bare table word of `nbits` bits is read in. A word of at most 3 bits is `LSTEP3`, one of 4
to 7 bits `PHASE5`, one of more than 8 bits `EVT16`. One byte can hold either of the first two, which share
their codes: the codes 0 to 6, for which `LSTEP3` has an operation, are read as `LSTEP3` and the others as
`PHASE5`. DESIGN CHOICE, log 20: the machine itself never has to choose, since each format has a selector
of its own. -/
def tableFormat (nbits w : Nat) : Format :=
  if nbits ≤ 3 then .lstep3
  else if nbits ≤ 7 then .phase5
  else if nbits ≤ 8 then (if w % 256 ≤ 6 then .lstep3 else .phase5)
  else .evt16

/-- A table word, its bits above `nbits` cleared. -/
def tableWord (nbits w : Nat) : BitVec 16 := BitVec.ofNat 16 (w % 2 ^ nbits)

/-- The instruction the decoder reads from a table word. -/
def decodeTableWord (nbits w : Nat) : Option Instr :=
  match decode (tableFormat nbits w) (tableWord nbits w) with
  | .ok i => some i
  | .error _ => none

end Sys2Proof
end

