-- ==== Sys2Proof/Machine/State.lean ====
section
/-! DEFINITION. The architectural state of OSB-CORE (10_state.md), the ports the environment drives, the
record of observable events, the reset state (70_reset_and_hazards.md R160), faults and refusals. -/

namespace Sys2Proof.Machine

/-- A rolling-average filter of depth 2^k (10_state.md R11): the slots, the index of the oldest reading,
the maintained sum. -/
structure SampleBuffer (k : Nat) where
  slot : Vector Reading (2 ^ k)
  idx : BitVec k
  sum : SumWord k
deriving DecidableEq, Repr, Inhabited

/-- The total of the slots, exactly (10_state.md R12). -/
def SampleBuffer.slotSum {k : Nat} (f : SampleBuffer k) : Nat := (f.slot.toList.map BitVec.toNat).sum

/-- A filter holding the given readings, with index 0 and the sum the invariant forces (10_state.md R14). -/
def SampleBuffer.ofSlots {k : Nat} (v : Vector Reading (2 ^ k)) : SampleBuffer k :=
  { slot := v, idx := 0, sum := BitVec.ofNat (k + 10) (v.toList.map BitVec.toNat).sum }

/-- A filter of zeros (10_state.md R14). -/
def SampleBuffer.zero (k : Nat) : SampleBuffer k := SampleBuffer.ofSlots (Vector.replicate (2 ^ k) 0)

/-- The observable events of 20_memory.md R55; a write of a scheduler's line carries the tick number, the value of
`tick` the step started with. DESIGN CHOICE on the form, log 13. -/
inductive Obs where
  | emitNear (tick : Nat) (on : Bool)
  | emitFar (tick : Nat) (on : Bool)
  | muxCfg (tick : Nat) (cfg : MuxCfg)
  | outA (on : Bool)
  | outB (on : Bool)
  | fanOn (on : Bool)
  | wdtKick
deriving DecidableEq, Repr, Inhabited

/-- The machine. First the parameters, which no operation changes; then field by field 10_state.md R10 to R35, where
a tick count stands for its value below 2^`TICK_W`; the last seven fields are the environment's ports and the model's
own (INVENTORY.md, State). -/
structure State where
  par : Config.Params
  near : SampleBuffer 3
  far : SampleBuffer 3
  amb : SampleBuffer 3
  fanSig : SampleBuffer 4
  fanRef : SampleBuffer 4
  tick : Nat
  muxCfg : MuxCfg
  emitNear : Bool
  emitFar : Bool
  running : Bool
  fanMode : FanMode
  fanOn : Bool
  debounce : Nat
  lastFanCheck : Nat
  snapNear : SumWord 3
  snapFar : SumWord 3
  snapAmb : SumWord 3
  snapTick : Nat
  snapSig : SumWord 4
  snapRef : SumWord 4
  lstep : LStep
  level : Level
  outA : Bool
  outB : Bool
  adc : Reading
  modeSel : Bool
  fanStrapHs : Bool
  inputs : List EventWord
  envDraws : Nat
  orderDraws : Nat
  obs : List Obs
deriving DecidableEq, Repr, Inhabited

/-- No step of the block faults: there is no synchronous exception, and nothing in the source is called a
fault (60_exceptions.md R135, 93_implementation_defined.md part 1). Nobody raises one; the type is empty. -/
inductive Fault where
deriving DecidableEq, Repr

/-- Why a step is refused, at the boundary of the block. -/
inductive Refusal where
  /-- Raised by an arm of `exec` whose instruction has no meaning yet; safe. No arm raises it. -/
  | notModelled (mnemonic : String)
  /-- Raised by `step` for a queued word that is no `EVT16` event (30_encoding.md R59, R65); safe. -/
  | malformedEvent (why : Reject)
deriving DecidableEq, Repr

/-- The state right after reset (70_reset_and_hazards.md R160), with the parameters of Config. Values the source does
not give: log 6, log 7; the strap level, the other ports' levels: log 8; the model's own fields: log 1, log 2, log 13. -/
def State.reset : State where
  par := Config.params
  near := SampleBuffer.zero 3
  far := SampleBuffer.zero 3
  amb := SampleBuffer.zero 3
  fanSig := SampleBuffer.zero 4
  fanRef := SampleBuffer.ofSlots Config.params.fanrefInit
  tick := 0
  muxCfg := .photo
  emitNear := false
  emitFar := false
  running := false
  fanMode := FanMode.ofStrap false
  fanOn := false
  debounce := 0
  lastFanCheck := 0
  snapNear := 0
  snapFar := 0
  snapAmb := 0
  snapTick := 0
  snapSig := 0
  snapRef := 0
  lstep := .ls0
  level := .off
  outA := false
  outB := false
  adc := 0
  modeSel := true
  fanStrapHs := false
  inputs := []
  envDraws := 0
  orderDraws := 0
  obs := []

end Sys2Proof.Machine
end

