-- ==== Sys2Proof/Machine/Ops.lean ====
section
/-! DEFINITION. The named operations over the filters, the lines and the sequencing registers, and the one
trap, `raise Reset`. The block has no byte-addressed memory (20_memory.md R40): its memory operations are the
reads and writes of a filter's slots. -/

namespace Sys2Proof.Machine

/-! ### Filters (40_filter.md) -/

/-- `MemRead(b, i)` (00_scope.md R7). The index type holds exactly the legal indices (20_memory.md R41). -/
def SampleBuffer.memRead {k : Nat} (f : SampleBuffer k) (i : BitVec k) : Reading :=
  f.slot[i.toNat]

/-- `MemWrite(b, i, v)` (00_scope.md R7). -/
def SampleBuffer.memWrite {k : Nat} (f : SampleBuffer k) (i : BitVec k) (v : Reading) : SampleBuffer k :=
  { f with slot := f.slot.set i.toNat v }

/-- `FILTER.UPDATE(b, v) -> old` (40_filter.md R70): the updated filter and the reading that left the window.
The sum is computed in its own width, which is exact under the filter invariant (R72; log 10). -/
def SampleBuffer.update {k : Nat} (f : SampleBuffer k) (v : Reading) : SampleBuffer k × Reading :=
  let old := f.memRead f.idx
  ({ f.memWrite f.idx v with
      sum := f.sum + v.setWidth (k + 10) - old.setWidth (k + 10)
      idx := f.idx + 1 }, old)

/-- `FILTER.UPDATE` on the filter a buffer id names; the returned reading is dropped (92_eei_decisions.md D29). -/
def State.filterUpdate (b : BufId) (v : Reading) (s : State) : State :=
  match b with
  | .near => { s with near := (s.near.update v).1 }
  | .far => { s with far := (s.far.update v).1 }
  | .amb => { s with amb := (s.amb.update v).1 }
  | .fanSig => { s with fanSig := (s.fanSig.update v).1 }
  | .fanRef => { s with fanRef := (s.fanRef.update v).1 }

/-- A slot's conditional update with the reading on `adc`: only this depends on `running`
(41_scheduler.md R77; log 15). -/
def State.accumulate (b : BufId) (s : State) : State :=
  if s.running then s.filterUpdate b s.adc else s

/-! ### The record of observable events, and the lines (20_memory.md R49, R55) -/

/-- Record one observable event. -/
def State.observe (e : Obs) (s : State) : State := { s with obs := s.obs ++ [e] }

/-- Write `emitNear`, one bit. -/
def State.writeEmitNear (on : Bool) (s : State) : State :=
  { s with emitNear := on, obs := s.obs ++ [.emitNear s.tick on] }

/-- Write `emitFar`, one bit. -/
def State.writeEmitFar (on : Bool) (s : State) : State :=
  { s with emitFar := on, obs := s.obs ++ [.emitFar s.tick on] }

/-- Write `muxCfg`. -/
def State.writeMuxCfg (c : MuxCfg) (s : State) : State :=
  { s with muxCfg := c, obs := s.obs ++ [.muxCfg s.tick c] }

/-- Write `outA`, one bit. -/
def State.writeOutA (on : Bool) (s : State) : State :=
  { s with outA := on, obs := s.obs ++ [.outA on] }

/-- Write `outB`, one bit. -/
def State.writeOutB (on : Bool) (s : State) : State :=
  { s with outB := on, obs := s.obs ++ [.outB on] }

/-- Write `fanOn`, one bit. -/
def State.writeFanOn (on : Bool) (s : State) : State :=
  { s with fanOn := on, obs := s.obs ++ [.fanOn on] }

/-- Emit `wdt_kick` (43_fan.md R115). -/
def State.kickWatchdog (s : State) : State := s.observe .wdtKick

/-! ### The ports the environment drives (10_state.md R35) -/

/-- The level of `adc` for this step. -/
def State.withAdc (v : Reading) (s : State) : State := { s with adc := v }

/-- The level of `mode_sel` for this step. -/
def State.withModeSel (m : Bool) (s : State) : State := { s with modeSel := m }

/-- The level of `fan_strap_hs`. -/
def State.withStrap (hs : Bool) (s : State) : State := { s with fanStrapHs := hs }

/-! ### The sequencing registers -/

/-- `tick <- (tick + 1) mod 2^TICK_W` (41_scheduler.md R76). -/
def State.advanceTick (s : State) : State := { s with tick := (s.tick + 1) % s.par.tickRange }

/-- `lstep <- l` (44_mainloop.md R120). -/
def State.gotoStep (l : LStep) (s : State) : State := { s with lstep := l }

/-! ### Entering and leaving the contexts

`raise Reset` is the only trap (60_exceptions.md R148): every register of the block takes its reset value,
`fanMode` is latched from the strap, nothing is saved and no cause is recorded. What is outside the block
stays: the parameters, the ports' levels, the queued events, the free draws and the record, which the reset's own
writes of the lines join; the order draw moves on, so that an iteration begun after the reset has an order of its own
(log 2). There is no return from it. The tick interrupt saves nothing on entry and restores nothing on return
(R142, R143), so it needs no operation. -/

/-- The writes of observable registers that a reset makes (10_state.md R21, R22, R27, R33), with the tick number the
reset found; the step is atomic, and the order is that of the table of R160 (log 13). -/
def resetWrites (tick : Nat) : List Obs :=
  [.muxCfg tick .photo, .emitNear tick false, .emitFar tick false, .fanOn false, .outA false, .outB false]

/-- `raise Reset`, the `RESET` event's effect (70_reset_and_hazards.md R160). -/
def State.raiseReset (s : State) : State :=
  { State.reset with
    par := s.par
    fanRef := SampleBuffer.ofSlots s.par.fanrefInit
    fanMode := FanMode.ofStrap s.fanStrapHs
    adc := s.adc
    modeSel := s.modeSel
    fanStrapHs := s.fanStrapHs
    inputs := s.inputs
    envDraws := s.envDraws
    orderDraws := s.orderDraws + 1
    obs := s.obs ++ resetWrites s.tick }

end Sys2Proof.Machine
end

