-- ==== Sys2Proof/Machine/Events.lean ====
section
/-! DEFINITION. The two events of the startup path: `RESET` and `START`. -/

namespace Sys2Proof.Machine

/-- `RESET hs=s` (70_reset_and_hazards.md R160): at any time, from any state. -/
def execReset (hs : Bool) (s : State) : Host.Outcome State Fault Refusal := .next (s.withStrap hs).raiseReset

/-- `START` (44_mainloop.md R130): a second one changes nothing (log 27). -/
def execStart (s : State) : Host.Outcome State Fault Refusal := .next { s with running := true }

end Sys2Proof.Machine
end

