-- ==== Sys2Proof/Machine/Operands.lean ====
section
/-! DEFINITION. What a slot and a loop step take as operands (30_encoding.md R58): the fan filter and the
multiplexer configuration assembled from `fanMode` and the outer-cycle bit, and the order of the line writes. -/

namespace Sys2Proof.Machine

/-- The fan filter `PH0_FAN` selects: `FANREF` if `fanMode` = HS and `b` = 1, else `FANSIG`
(30_encoding.md R58, 41_scheduler.md R80). -/
def fanFilter (m : FanMode) (b : Bool) : BufId :=
  match m, b with
  | .hs, true => .fanRef
  | _, _ => .fanSig

/-- `fanCfg(fanMode, b)` (41_scheduler.md R93; log 14). -/
def fanCfg (m : FanMode) (b : Bool) : MuxCfg :=
  match m, b with
  | .std, _ => .fanStd
  | .hs, true => .fanHsSig
  | .hs, false => .fanHsRef

/-- The order of the two line writes of the n-th iteration under a value of `OUT_ORDER`
(42_classifier.md R102; log 2). -/
def lineOrder (o : OutOrder) (n : Nat) : LineOrder :=
  match o with
  | .aFirst => .aFirst
  | .bFirst => .bFirst
  | .any => Config.anyOrder n

/-- The order of the iteration in progress. -/
def State.lineOrder (s : State) : LineOrder := Machine.lineOrder s.par.outOrder s.orderDraws

end Sys2Proof.Machine
end

