-- ==== Sys2Proof/Machine/Flags.lean ====
section
/-! DEFINITION. The computed conditions. The block has no condition-code register (10_state.md R36); what it
computes are the level (42_classifier.md), the two lines' values, the fan controller's conditions and writes
(43_fan.md) and the fan gate (44_mainloop.md). All arithmetic is exact, on natural numbers (R7, R106, R119). -/

namespace Sys2Proof.Machine

/-- `satsub(a, b)` (00_scope.md R7): clamped at zero. -/
def satsub (a b : Nat) : Nat := if b ≤ a then a - b else 0

/-! ### The classifier -/

/-- The saturation test, on the raw sums (42_classifier.md R97). -/
def saturated (near far : Nat) : Bool := Config.satThr ≤ near || Config.satThr ≤ far

/-- Simple mode (42_classifier.md R99). -/
def simpleLevel (adjNear : Nat) : Level := if Config.nearThr ≤ adjNear then .on else .off

/-- Differential mode (42_classifier.md R100). -/
def differentialLevel (adjNear adjFar : Nat) : Level :=
  if adjFar < adjNear ∧ Config.farThr ≤ adjFar then .on
  else if Config.farThr ≤ adjFar ∧ adjFar * Config.approachDen ≤ adjNear * Config.approachNum then .approaching
  else .off

/-- `classify(near, far, amb, mode)` (42_classifier.md R101); `mode` is the level of `mode_sel`, 0 simple,
1 differential, and is looked at only when the sums are not saturated (R96; log 25). -/
def classify (near far amb : Nat) (mode : Bool) : Level :=
  if saturated near far then .saturated
  else
    match mode with
    | false => simpleLevel (satsub near amb)
    | true => differentialLevel (satsub near amb) (satsub far amb)

/-- `wantA` (42_classifier.md R102, 30_encoding.md R63). -/
def wantA : Level → Bool
  | .off => false
  | .approaching => true
  | .on => false
  | .saturated => true

/-- `wantB` (42_classifier.md R102, 30_encoding.md R63). -/
def wantB : Level → Bool
  | .off => false
  | .approaching => false
  | .on => true
  | .saturated => true

/-! ### The fan controller -/

/-- `diff` (43_fan.md R111). -/
def fanDiff (sig ref : Nat) : Nat := satsub ref sig

/-- The turn-off band, closed at both ends (43_fan.md R112). -/
def fanBand (p : Config.FanProfile) (diff : Nat) : Bool := p.connThr ≤ diff && diff ≤ p.offThr

/-- The turn-on condition: disconnected, or too hot (43_fan.md R113). -/
def fanTrig (p : Config.FanProfile) (sig ref : Nat) : Bool :=
  ref ≤ sig || fanDiff sig ref < p.connThr || p.onThr ≤ fanDiff sig ref

/-- The writes one fan check makes: a register it does not write is `none`. -/
structure FanWrites where
  fanOn : Option Bool
  debounce : Option Nat
deriving DecidableEq, Repr

/-- The writes of one fan check from `(fanOn, debounce)` (43_fan.md R110, R112, R113). -/
def fanControl (p : Config.FanProfile) (reload sig ref : Nat) (fanOn : Bool) (debounce : Nat) : FanWrites :=
  match fanOn with
  | true =>
    if fanBand p (fanDiff sig ref) then
      if debounce = 0 then ⟨some false, none⟩ else ⟨none, some (debounce - 1)⟩
    else ⟨none, none⟩
  | false => if fanTrig p sig ref then ⟨some true, some reload⟩ else ⟨none, none⟩

/-- `(fanOn, debounce)` after one fan check: the state diagram of 43_fan.md R114. -/
def fanNext (p : Config.FanProfile) (reload sig ref : Nat) (fanOn : Bool) (debounce : Nat) : Bool × Nat :=
  let w := fanControl p reload sig ref fanOn debounce
  (w.fanOn.getD fanOn, w.debounce.getD debounce)

/-! ### The fan gate -/

/-- `elapsed`, a difference modulo the range of a tick count, 2^`TICK_W` (44_mainloop.md R124). -/
def elapsed (range snapTick lastFanCheck : Nat) : Nat := (snapTick + (range - lastFanCheck % range)) % range

/-- The gate: strictly more than the interval (44_mainloop.md R123; log 16). -/
def gateFires (p : Config.Params) (snapTick lastFanCheck : Nat) : Bool :=
  p.fanInterval < elapsed p.tickRange snapTick lastFanCheck

/-- The marker advanced by exactly one interval (44_mainloop.md R126). -/
def nextMarker (p : Config.Params) (lastFanCheck : Nat) : Nat := (lastFanCheck + p.fanInterval) % p.tickRange

end Sys2Proof.Machine
end

