-- ==== Sys2Proof/Machine/Loop.lean ====
section
/-! DEFINITION. The main loop (44_mainloop.md R120): the meanings of the seven `LSTEP3` rows, each one atomic
step, and the `LOOP` event. -/

namespace Sys2Proof.Machine

/-! ### The steps of the classifier and encoder (42_classifier.md) -/

/-- `LS0` `SNAP3` (42_classifier.md R95): the critical section over the three proximity sums. -/
def snap3 (s : State) : State :=
  { s with snapNear := s.near.sum, snapFar := s.far.sum, snapAmb := s.amb.sum }

/-- `LS1` `CLASSIFY` (42_classifier.md R96). -/
def classifyStep (s : State) : State :=
  { s with level := classify s.snapNear.toNat s.snapFar.toNat s.snapAmb.toNat s.modeSel }

/-- The first line write of an order (42_classifier.md R102). -/
def writeFirst (o : LineOrder) (s : State) : State :=
  match o with
  | .aFirst => s.writeOutA (wantA s.level)
  | .bFirst => s.writeOutB (wantB s.level)

/-- The second line write of an order (42_classifier.md R102). -/
def writeSecond (o : LineOrder) (s : State) : State :=
  match o with
  | .aFirst => s.writeOutB (wantB s.level)
  | .bFirst => s.writeOutA (wantA s.level)

/-- The iteration's order has been used: the next iteration draws anew (42_classifier.md R102; log 2). -/
def State.nextOrder (s : State) : State := { s with orderDraws := s.orderDraws + 1 }

/-! ### The fan check (43_fan.md R110, 44_mainloop.md R125) -/

/-- The critical section over the two fan sums (43_fan.md R110; log 17). -/
def snapFans (s : State) : State := { s with snapSig := s.fanSig.sum, snapRef := s.fanRef.sum }

/-- Make the writes of a fan check. -/
def applyFanWrites (w : FanWrites) (s : State) : State :=
  let s := match w.debounce with
    | some d => { s with debounce := d }
    | none => s
  match w.fanOn with
  | some on => s.writeFanOn on
  | none => s

/-- `fancontrol` (43_fan.md R110) under a profile and a reload value. -/
def fanCheck (p : Config.FanProfile) (reload : Nat) (s : State) : State :=
  let s := snapFans s
  (applyFanWrites (fanControl p reload s.snapSig.toNat s.snapRef.toNat s.fanOn s.debounce) s).kickWatchdog

/-- The marker advance (44_mainloop.md R126). -/
def advanceMarker (s : State) : State := { s with lastFanCheck := nextMarker s.par s.lastFanCheck }

/-! ### The meanings of the rows -/

/-- `LS0` `SNAP3` (42_classifier.md R95). -/
def execLs0Snap3 (s : State) : Host.Outcome State Fault Refusal := .next ((snap3 s).gotoStep .ls1)

/-- `LS1` `CLASSIFY` (42_classifier.md R96). -/
def execLs1Classify (s : State) : Host.Outcome State Fault Refusal := .next ((classifyStep s).gotoStep .ls2)

/-- `LS2` `OUTW1` (42_classifier.md R102). -/
def execLs2Outw1 (s : State) : Host.Outcome State Fault Refusal :=
  .next ((writeFirst s.lineOrder s).gotoStep .ls3)

/-- `LS3` `OUTW2` (42_classifier.md R102). -/
def execLs3Outw2 (s : State) : Host.Outcome State Fault Refusal :=
  .next ((writeSecond s.lineOrder s).nextOrder.gotoStep .ls4)

/-- `LS4` `TICKSNAP` (44_mainloop.md R122). -/
def execLs4Ticksnap (s : State) : Host.Outcome State Fault Refusal :=
  .next ({ s with snapTick := s.tick }.gotoStep .ls5)

/-- `LS5` `GATE` (44_mainloop.md R123). -/
def execLs5Gate (s : State) : Host.Outcome State Fault Refusal :=
  .next (s.gotoStep (if gateFires s.par s.snapTick s.lastFanCheck then .ls6 else .ls0))

/-- `LS6` `FANCHECK` (44_mainloop.md R125). -/
def execLs6Fancheck (s : State) : Host.Outcome State Fault Refusal :=
  .next ((advanceMarker (fanCheck (s.par.profile s.fanMode) s.par.debounceReload s)).gotoStep .ls0)

/-! ### The LOOP event -/

/-- The step `lstep` names (44_mainloop.md R120). -/
def loopStep (s : State) : Host.Outcome State Fault Refusal :=
  match s.lstep with
  | .ls0 => execLs0Snap3 s
  | .ls1 => execLs1Classify s
  | .ls2 => execLs2Outw1 s
  | .ls3 => execLs3Outw2 s
  | .ls4 => execLs4Ticksnap s
  | .ls5 => execLs5Gate s
  | .ls6 => execLs6Fancheck s

/-- `LOOP mode=m` (30_encoding.md R65, R66): one LOOP step with `mode_sel` at `m`; while the LOOP agent is not
enabled (44_mainloop.md R121) it changes nothing (log 12). -/
def execLoop (m : Bool) (s : State) : Host.Outcome State Fault Refusal :=
  match s.running with
  | true => loopStep (s.withModeSel m)
  | false => .next s

end Sys2Proof.Machine
end

