-- ==== Sys2Proof/Machine/Scheduler.lean ====
section
/-! DEFINITION. The sampling scheduler (41_scheduler.md): the actions of the eight slot classes on a state
whose `adc` port holds the reading, the meanings of the sixteen `PHASE5` rows, and the TICK step. A row's
meaning is the slot followed by the advance of `tick` (R75, R76; log 11). -/

namespace Sys2Proof.Machine

/-! ### The slot classes -/

/-- `PH0_FAN` (41_scheduler.md R80). -/
def slotPh0Fan (b : Bool) (s : State) : State := (s.accumulate (fanFilter s.fanMode b)).writeEmitFar true

/-- `PH_NEAR` (41_scheduler.md R81). -/
def slotPhNear (s : State) : State := (s.accumulate .near).writeEmitFar true

/-- `PH_AMB` (41_scheduler.md R82): far off first, then near on. -/
def slotPhAmb (s : State) : State := ((s.accumulate .amb).writeEmitFar false).writeEmitNear true

/-- `PH_FAR` (41_scheduler.md R83). -/
def slotPhFar (s : State) : State := (s.accumulate .far).writeEmitNear false

/-- `PH11_FAR_MUXFAN` (41_scheduler.md R84). -/
def slotPh11FarMuxfan (b : Bool) (s : State) : State :=
  ((s.accumulate .far).writeEmitNear false).writeMuxCfg (fanCfg s.fanMode b)

/-- `PH12_NEAR` (41_scheduler.md R85): no line is written. -/
def slotPh12Near (s : State) : State := s.accumulate .near

/-- `PH_DISCARD` (41_scheduler.md R86): the reading is dropped. -/
def slotPhDiscard (s : State) : State := s

/-- `PH15_MUXPHOTO` (41_scheduler.md R87): the reading is dropped. -/
def slotPh15Muxphoto (s : State) : State := s.writeMuxCfg .photo

/-- The slot of a class (41_scheduler.md R78): `b` matters to two classes only. -/
def performSlot (b : Bool) (c : SlotClass) (s : State) : State :=
  match c with
  | .ph0Fan => slotPh0Fan b s
  | .phAmb => slotPhAmb s
  | .phFar => slotPhFar s
  | .phNear => slotPhNear s
  | .ph11FarMuxfan => slotPh11FarMuxfan b s
  | .ph12Near => slotPh12Near s
  | .phDiscard => slotPhDiscard s
  | .ph15Muxphoto => slotPh15Muxphoto s

/-! ### The meanings of the rows -/

/-- Phase 0 (41_scheduler.md R80). -/
def execPh0Fan (b : Bool) (s : State) : Host.Outcome State Fault Refusal := .next (slotPh0Fan b s).advanceTick

/-- Phase 1 (41_scheduler.md R82); the outer-cycle bit takes no part. -/
def execPhAmb1 (_b : Bool) (s : State) : Host.Outcome State Fault Refusal := .next (slotPhAmb s).advanceTick

/-- Phase 2 (41_scheduler.md R83); the outer-cycle bit takes no part. -/
def execPhFar2 (_b : Bool) (s : State) : Host.Outcome State Fault Refusal := .next (slotPhFar s).advanceTick

/-- Phase 3 (41_scheduler.md R81); the outer-cycle bit takes no part. -/
def execPhNear3 (_b : Bool) (s : State) : Host.Outcome State Fault Refusal := .next (slotPhNear s).advanceTick

/-- Phase 4 (41_scheduler.md R82); the outer-cycle bit takes no part. -/
def execPhAmb4 (_b : Bool) (s : State) : Host.Outcome State Fault Refusal := .next (slotPhAmb s).advanceTick

/-- Phase 5 (41_scheduler.md R83); the outer-cycle bit takes no part. -/
def execPhFar5 (_b : Bool) (s : State) : Host.Outcome State Fault Refusal := .next (slotPhFar s).advanceTick

/-- Phase 6 (41_scheduler.md R81); the outer-cycle bit takes no part. -/
def execPhNear6 (_b : Bool) (s : State) : Host.Outcome State Fault Refusal := .next (slotPhNear s).advanceTick

/-- Phase 7 (41_scheduler.md R82); the outer-cycle bit takes no part. -/
def execPhAmb7 (_b : Bool) (s : State) : Host.Outcome State Fault Refusal := .next (slotPhAmb s).advanceTick

/-- Phase 8 (41_scheduler.md R83); the outer-cycle bit takes no part. -/
def execPhFar8 (_b : Bool) (s : State) : Host.Outcome State Fault Refusal := .next (slotPhFar s).advanceTick

/-- Phase 9 (41_scheduler.md R81); the outer-cycle bit takes no part. -/
def execPhNear9 (_b : Bool) (s : State) : Host.Outcome State Fault Refusal := .next (slotPhNear s).advanceTick

/-- Phase 10 (41_scheduler.md R82); the outer-cycle bit takes no part. -/
def execPhAmb10 (_b : Bool) (s : State) : Host.Outcome State Fault Refusal := .next (slotPhAmb s).advanceTick

/-- Phase 11 (41_scheduler.md R84). -/
def execPh11FarMuxfan (b : Bool) (s : State) : Host.Outcome State Fault Refusal :=
  .next (slotPh11FarMuxfan b s).advanceTick

/-- Phase 12 (41_scheduler.md R85); the outer-cycle bit takes no part. -/
def execPh12Near (_b : Bool) (s : State) : Host.Outcome State Fault Refusal := .next (slotPh12Near s).advanceTick

/-- Phase 13 (41_scheduler.md R86); the outer-cycle bit takes no part. -/
def execPhDiscard13 (_b : Bool) (s : State) : Host.Outcome State Fault Refusal := .next (slotPhDiscard s).advanceTick

/-- Phase 14 (41_scheduler.md R86); the outer-cycle bit takes no part. -/
def execPhDiscard14 (_b : Bool) (s : State) : Host.Outcome State Fault Refusal := .next (slotPhDiscard s).advanceTick

/-- Phase 15 (41_scheduler.md R87); the outer-cycle bit takes no part. -/
def execPh15Muxphoto (_b : Bool) (s : State) : Host.Outcome State Fault Refusal :=
  .next (slotPh15Muxphoto s).advanceTick

/-! ### The TICK step -/

/-- One TICK step on a state whose `adc` port holds the reading (41_scheduler.md R75): the slot is selected by
`tick` as it stands on entry, and the advance comes last. -/
def tickStep (s : State) : State :=
  (performSlot (outerOf (selectorOf s.tick)) (slotClass (phaseOf (selectorOf s.tick))) s).advanceTick

/-- `TICK v` (30_encoding.md R65, 41_scheduler.md R75). -/
def execTick (v : Reading) (s : State) : Host.Outcome State Fault Refusal := .next (tickStep (s.withAdc v))

end Sys2Proof.Machine
end

