-- ==== Sys2Proof/Machine/Dispatch.lean ====
section
/-! DEFINITION. The meaning of every operation of spec/opcode_table.json, one arm per row. -/

namespace Sys2Proof.Machine

def exec (i : Instr) (s : State) : Host.Outcome State Fault Refusal :=
  match i with
  -- PHASE5: the slots of the schedule
  | .ph0Fan b => Sys2Proof.Machine.execPh0Fan b s
  | .phAmb1 b => Sys2Proof.Machine.execPhAmb1 b s
  | .phFar2 b => Sys2Proof.Machine.execPhFar2 b s
  | .phNear3 b => Sys2Proof.Machine.execPhNear3 b s
  | .phAmb4 b => Sys2Proof.Machine.execPhAmb4 b s
  | .phFar5 b => Sys2Proof.Machine.execPhFar5 b s
  | .phNear6 b => Sys2Proof.Machine.execPhNear6 b s
  | .phAmb7 b => Sys2Proof.Machine.execPhAmb7 b s
  | .phFar8 b => Sys2Proof.Machine.execPhFar8 b s
  | .phNear9 b => Sys2Proof.Machine.execPhNear9 b s
  | .phAmb10 b => Sys2Proof.Machine.execPhAmb10 b s
  | .ph11FarMuxfan b => Sys2Proof.Machine.execPh11FarMuxfan b s
  | .ph12Near b => Sys2Proof.Machine.execPh12Near b s
  | .phDiscard13 b => Sys2Proof.Machine.execPhDiscard13 b s
  | .phDiscard14 b => Sys2Proof.Machine.execPhDiscard14 b s
  | .ph15Muxphoto b => Sys2Proof.Machine.execPh15Muxphoto b s
  -- LSTEP3: the steps of the main loop
  | .ls0Snap3 => Sys2Proof.Machine.execLs0Snap3 s
  | .ls1Classify => Sys2Proof.Machine.execLs1Classify s
  | .ls2Outw1 => Sys2Proof.Machine.execLs2Outw1 s
  | .ls3Outw2 => Sys2Proof.Machine.execLs3Outw2 s
  | .ls4Ticksnap => Sys2Proof.Machine.execLs4Ticksnap s
  | .ls5Gate => Sys2Proof.Machine.execLs5Gate s
  | .ls6Fancheck => Sys2Proof.Machine.execLs6Fancheck s
  -- EVT16: the events of a trace
  | .reset hs => Sys2Proof.Machine.execReset hs s
  | .start => Sys2Proof.Machine.execStart s
  | .tick v => Sys2Proof.Machine.execTick v s
  | .loop m => Sys2Proof.Machine.execLoop m s

end Sys2Proof.Machine
end

