-- ==== Sys2Proof/Machine/Fetch.lean ====
section
/-! DEFINITION. Where the machine's next operation comes from. The block fetches no instructions
(30_encoding.md): an event of the environment makes an agent step, `TICK` performs the slot `tick` selects and
`LOOP` the step `lstep` names. Queued events come first, in order; with none queued the environment's next
event is a free draw (log 1). -/

namespace Sys2Proof.Machine

/-- The next event, decoded, and the state without it. -/
def fetch (s : State) : Except Reject Instr × State :=
  match s.inputs with
  | [] => (.ok (Config.envEvent s.envDraws).instr, { s with envDraws := s.envDraws + 1 })
  | w :: rest => (decodeEvt16 w, { s with inputs := rest })

/-- Queue an event in front of the others. -/
def State.pushEvent (w : EventWord) (s : State) : State := { s with inputs := w :: s.inputs }

/-- Make the next step run the operation a table word encodes (log 20). An `EVT16` word is queued as it is. A
`PHASE5` word becomes the low bits of `tick`, and a `TICK` with the reading the port shows is queued. An `LSTEP3`
word becomes `lstep`, with the LOOP agent enabled, and a `LOOP` with the level `mode_sel` shows is queued. A word
no format has is queued as a word no event has, which the step refuses. -/
def placeTableWord (s : State) (nbits w : Nat) : State :=
  match tableFormat nbits w with
  | .evt16 => s.pushEvent (tableWord nbits w)
  | .phase5 =>
    if (tableWord nbits w).toNat < 32 then
      { s with tick := s.tick / 32 * 32 + (tableWord nbits w).toNat }.pushEvent (Event.tick s.adc).word
    else s.pushEvent 0xFFFF
  | .lstep3 =>
    match LStep.ofCode ((tableWord nbits w).extractLsb' 0 3) with
    | some l => { s with lstep := l, running := true }.pushEvent (Event.loop s.modeSel).word
    | none => s.pushEvent 0xFFFF

end Sys2Proof.Machine
end

