-- ==== Sys2Proof/Machine/Step.lean ====
section
/-! DEFINITION. One step of the machine: the next event is taken and executed; a malformed one is refused by
name. -/

namespace Sys2Proof.Machine

/-- One step (20_memory.md R50): one event of the environment, whole. -/
def step (s : State) : Host.Outcome State Fault Refusal :=
  match fetch s with
  | (.ok i, t) => exec i t
  | (.error r, _) => .refused (.malformedEvent r)

/-- The state whose next step runs the operation a word of spec/opcode_table.json encodes. -/
def State.withFetchWord (s : State) (nbits w : Nat) : State := placeTableWord s nbits w

end Sys2Proof.Machine
end

