-- ==== Sys2Proof/Machine/ControlWord.lean ====
section
/-! DEFINITION. The data-driven form of the schedule (30_encoding.md R60): the table of control words and the
slot a control word describes. The slot rules govern; that the two agree is a claim about this table (log 28). -/

namespace Sys2Proof.Machine

/-- The control word of a phase (30_encoding.md R60). -/
def controlRom (p : BitVec 4) : BitVec 9 :=
  match p.toNat with
  | 0 => 0x00C
  | 1 | 4 | 7 | 10 => 0x033
  | 2 | 5 | 8 => 0x042
  | 3 | 6 | 9 => 0x009
  | 11 => 0x0C2
  | 12 => 0x001
  | 13 | 14 => 0x000
  | _ => 0x100

/-- The filter a route names, the fan filter by 30_encoding.md R58. -/
def routeBuf (r : Route) (m : FanMode) (b : Bool) : Option BufId :=
  match r with
  | .none => none
  | .near => some .near
  | .far => some .far
  | .amb => some .amb
  | .fan => some (fanFilter m b)

/-- Perform an action if its bit is set. -/
def State.when (c : Bool) (f : State → State) (s : State) : State := if c then f s else s

/-- The slot a control word describes: the routed update, then the far line, the near line, the multiplexer. -/
def runControl (cw : ControlWord) (b : Bool) (s : State) : State :=
  let s := match routeBuf cw.route s.fanMode b with
    | some buf => s.accumulate buf
    | none => s
  let s := s.when cw.farSet (State.writeEmitFar true)
  let s := s.when cw.farClr (State.writeEmitFar false)
  let s := s.when cw.nearSet (State.writeEmitNear true)
  let s := s.when cw.nearClr (State.writeEmitNear false)
  let s := s.when cw.muxFan (State.writeMuxCfg (fanCfg s.fanMode b))
  s.when cw.muxPhoto (State.writeMuxCfg .photo)

/-- A TICK step driven by the table instead of the slot rules. -/
def controlTickStep (s : State) : Except Reject State :=
  match decodeControl (controlRom (phaseOf (selectorOf s.tick))) with
  | .ok cw => .ok (runControl cw (outerOf (selectorOf s.tick)) s).advanceTick
  | .error r => .error r

end Sys2Proof.Machine
end

