-- ==== Sys2Proof/Machine/Trace.lean ====
section
/-! DEFINITION. The trace notation (30_encoding.md R66, R67): a line of text, the item it stands for, and when
an item and a trace are well formed. -/

namespace Sys2Proof.Machine

/-- One line of a trace: an event of R65 or a macro of R67. -/
inductive TraceItem where
  | reset (hs : Bool)
  | start
  | tick (v : Nat)
  | loop (m : Bool)
  | ticks (n v : Nat)
  | cycle16 (vs : List Nat)
  | iter (m : Bool)
  | iters (n : Nat) (m : Bool)
deriving DecidableEq, Repr

/-- A reading in a trace is at most 1023 (30_encoding.md R66, 40_filter.md R74), and a cycle has 16 readings. -/
def TraceItem.wf : TraceItem → Bool
  | .reset _ | .start | .loop _ | .iter _ | .iters _ _ => true
  | .tick v | .ticks _ v => v ≤ 1023
  | .cycle16 vs => vs.length = 16 && vs.all (· ≤ 1023)

/-- A trace of words is well formed: every word is an event, and the first is `RESET` (30_encoding.md R66). -/
def traceWf (ws : List EventWord) : Bool :=
  (match ws.head?.map decodeEvt16 with
   | some (.ok (.reset _)) => true
   | _ => false) &&
  ws.all fun w => match decodeEvt16 w with
    | .ok _ => true
    | .error _ => false

/-! ### Reading a line of text -/

/-- Cut off a comment: `;` starts it. -/
def dropComment (cs : List Char) : List Char := cs.takeWhile (· ≠ ';')

/-- The words of a line: blanks and commas separate. -/
def lineWords (cs : List Char) : List (List Char) :=
  (cs.foldr (fun c (acc : List (List Char)) =>
    if c = ' ' || c = '\t' || c = ',' then [] :: acc
    else match acc with
      | [] => [[c]]
      | w :: ws => (c :: w) :: ws) [[]]).filter (· ≠ [])

/-- The value of a digit in a base of at most 16. -/
def digitValue (base : Nat) (c : Char) : Option Nat :=
  let n := c.toNat
  let d := if 48 ≤ n ∧ n ≤ 57 then n - 48
    else if 65 ≤ n ∧ n ≤ 70 then n - 55
    else if 97 ≤ n ∧ n ≤ 102 then n - 87
    else base
  if d < base then some d else none

/-- The value of a string of digits, which is not empty. -/
def digitsValue (base : Nat) (cs : List Char) : Option Nat :=
  if cs = [] then none
  else cs.foldl (fun acc c => acc.bind fun a => (digitValue base c).map (a * base + ·)) (some 0)

/-- A number: decimal unless prefixed `0x` (30_encoding.md R66). -/
def parseNumber : List Char → Option Nat
  | '0' :: 'x' :: cs => digitsValue 16 cs
  | cs => digitsValue 10 cs

/-- A bit written `key=<n>` with n 0 or 1. -/
def parseBit (key word : List Char) : Option Bool :=
  if word.take key.length = key then
    match parseNumber (word.drop key.length) with
    | some 0 => some false
    | some 1 => some true
    | _ => none
  else none

/-- The item a line's words stand for. `LOOP`, `ITER` and `ITERS` without `mode` mean `mode=1`, the pull-up
level (30_encoding.md R66; log 30). -/
def parseWords : List (List Char) → Option TraceItem
  | [['R', 'E', 'S', 'E', 'T'], hs] => (parseBit ['h', 's', '='] hs).map .reset
  | [['S', 'T', 'A', 'R', 'T']] => some .start
  | [['T', 'I', 'C', 'K'], v] => (parseNumber v).map .tick
  | [['L', 'O', 'O', 'P']] => some (.loop true)
  | [['L', 'O', 'O', 'P'], m] => (parseBit ['m', 'o', 'd', 'e', '='] m).map .loop
  | [['T', 'I', 'C', 'K', 'S'], n, v] => (parseNumber n).bind fun n => (parseNumber v).map (.ticks n)
  | ['C', 'Y', 'C', 'L', 'E', '1', '6'] :: vs => (vs.mapM parseNumber).map .cycle16
  | [['I', 'T', 'E', 'R']] => some (.iter true)
  | [['I', 'T', 'E', 'R'], m] => (parseBit ['m', 'o', 'd', 'e', '='] m).map .iter
  | [['I', 'T', 'E', 'R', 'S'], n] => (parseNumber n).map (.iters · true)
  | [['I', 'T', 'E', 'R', 'S'], n, m] =>
    (parseNumber n).bind fun n => (parseBit ['m', 'o', 'd', 'e', '='] m).map (.iters n)
  | _ => none

/-- What a line of a trace is. -/
inductive TraceLine where
  | blank
  | item (i : TraceItem)
  | malformed
deriving DecidableEq, Repr

/-- Read one line (30_encoding.md R66): a blank or comment line, a well-formed item, or refused. -/
def parseLine (cs : List Char) : TraceLine :=
  match lineWords (dropComment cs) with
  | [] => .blank
  | ws => match parseWords ws with
    | some i => if i.wf then .item i else .malformed
    | none => .malformed

end Sys2Proof.Machine
end

