-- ==== Sys2Proof/Machine/Program.lean ====
section
/-! DEFINITION. A program of this block is a sequence of events (30_encoding.md R65): running one, and the
expansion of the macros of R67, of which `ITER` depends on the state, and running one under the watchdog. -/

namespace Sys2Proof.Machine

/-- Run a sequence of events, one step each. -/
def runEvents : List Event → State → Host.Outcome State Fault Refusal
  | [], s => .next s
  | e :: es, s =>
    match exec e.instr s with
    | .next t => runEvents es t
    | .fault r => .fault r
    | .refused r => .refused r

/-- How many `LOOP` steps bring `lstep` to `LS0` again with no tick between (30_encoding.md R67): from `LS0`,
six, or seven when `LS5` fires the fan check. While the LOOP agent is not enabled one `LOOP` leaves it at
`LS0`. -/
def iterLength (s : State) : Nat :=
  let fires (snap : Nat) : Nat := if gateFires s.par snap s.lastFanCheck then 1 else 0
  match s.running, s.lstep with
  | false, _ => 1
  | true, .ls0 => 6 + fires s.tick
  | true, .ls1 => 5 + fires s.tick
  | true, .ls2 => 4 + fires s.tick
  | true, .ls3 => 3 + fires s.tick
  | true, .ls4 => 2 + fires s.tick
  | true, .ls5 => 1 + fires s.snapTick
  | true, .ls6 => 1

/-- The events of one item at a state (30_encoding.md R67). `ITERS` is unrolled by `assemble`. -/
def expandItem (i : TraceItem) (s : State) : List Event :=
  match i with
  | .reset hs => [.reset hs]
  | .start => [.start]
  | .tick v => [.tick (BitVec.ofNat 10 v)]
  | .loop m => [.loop m]
  | .ticks n v => List.replicate n (.tick (BitVec.ofNat 10 v))
  | .cycle16 vs => vs.map fun v => .tick (BitVec.ofNat 10 v)
  | .iter m | .iters _ m => List.replicate (iterLength s) (.loop m)

/-- `ITERS n` is `ITER` n times; every other item stands for itself. -/
def unrollItem : TraceItem → List TraceItem
  | .iters n m => List.replicate n (.iter m)
  | i => [i]

/-- The state after some events; no event of the block stops (60_exceptions.md R135). -/
def afterEvents (es : List Event) (s : State) : State :=
  match runEvents es s with
  | .next t => t
  | .fault _ => s
  | .refused _ => s

/-- The events of a list of unrolled items from a state. -/
def assembleItems : List TraceItem → State → List Event
  | [], _ => []
  | i :: rest, s => expandItem i s ++ assembleItems rest (afterEvents (expandItem i s) s)

/-- The events of a trace from a state. -/
def assemble (items : List TraceItem) (s : State) : List Event := assembleItems (items.flatMap unrollItem) s

/-! ### The watchdog, outside the block (60_exceptions.md R147; log 23) -/

/-- The number of watchdog refreshes in a record. -/
def kicks (o : List Obs) : Nat := o.count .wdtKick

/-- The ticks since the watchdog's timeout was last restarted, after an event from `s` to `t`: a refresh or a reset
restarts it, a tick adds one. -/
def sinceKick (e : Event) (s t : State) (n : Nat) : Nat :=
  if kicks s.obs < kicks t.obs then 0
  else match e with
    | .reset _ => 0
    | .tick _ => n + 1
    | .start | .loop _ => n

/-- Run a sequence of events with the watchdog as a part of the environment: when `WDT_PERIOD` ticks have passed with
no refresh it asserts `RESET`, with the strap as it stands. `n` ticks have passed at the start. -/
def runWatched : List Event → Nat → State → Host.Outcome State Fault Refusal
  | [], _, s => .next s
  | e :: es, n, s =>
    match exec e.instr s with
    | .next t =>
      if t.par.wdtPeriod ≤ sinceKick e s t n then
        match exec (.reset t.fanStrapHs) t with
        | .next u => runWatched es 0 u
        | .fault r => .fault r
        | .refused r => .refused r
      else runWatched es (sinceKick e s t n) t
    | .fault r => .fault r
    | .refused r => .refused r

end Sys2Proof.Machine
end

