-- ==== Sys2Proof/Safety.lean ====
section
/-! DEFINITION. What a safe run of OSB-CORE is: the invariants of the spec, each a predicate of one state, and
the views of a state that claims about the two agents compare. -/

namespace Sys2Proof.Machine

/-- The filter invariant (10_state.md R12): the maintained sum is the total of the slots. The index is in range
by its width. -/
def SampleBuffer.Wf {k : Nat} (f : SampleBuffer k) : Prop := f.sum.toNat = f.slotSum

/-- The filter invariant for all five filters (10_state.md R12). -/
structure FiltersWf (s : State) : Prop where
  near : s.near.Wf
  far : s.far.Wf
  amb : s.amb.Wf
  fanSig : s.fanSig.Wf
  fanRef : s.fanRef.Wf

/-- The phases whose step leaves the near emitter on (41_scheduler.md R88). -/
def nearLit (p : Nat) : Bool := p = 1 || p = 4 || p = 7 || p = 10

/-- The phases whose step leaves the far emitter on (41_scheduler.md R88). -/
def farLit (p : Nat) : Bool := p = 0 || p = 3 || p = 6 || p = 9

/-- The configuration the step at a slot leaves (41_scheduler.md R88). -/
def muxLeft (m : FanMode) (sel : BitVec 5) : MuxCfg :=
  if 11 ≤ (phaseOf sel).toNat ∧ (phaseOf sel).toNat ≤ 14 then fanCfg m (outerOf sel) else .photo

/-- The lines are as the last TICK step's phase left them (41_scheduler.md R89); at reset, as phase 15 does. The last
phase is one before the selector, modulo 32. -/
structure LinesFollowPhase (s : State) : Prop where
  emitNear : s.emitNear = nearLit (phaseOf (selectorOf s.tick - 1)).toNat
  emitFar : s.emitFar = farLit (phaseOf (selectorOf s.tick - 1)).toNat
  muxCfg : s.muxCfg = muxLeft s.fanMode (selectorOf s.tick - 1)

/-- The reachable states of the fan controller (43_fan.md R114). -/
structure FanStateLegal (s : State) : Prop where
  bounded : s.debounce ≤ s.par.debounceReload
  off : s.fanOn = false → s.debounce = 0

/-- While it is not enabled the LOOP agent stands at `LS0` (44_mainloop.md R121). -/
def LoopIdle (s : State) : Prop := s.running = false → s.lstep = .ls0

/-- The lines encode `level` outside `LS2` and `LS3` (42_classifier.md R103, 70_reset_and_hazards.md R164);
between the two writes the line written first does. -/
structure LinesEncodeLevel (s : State) : Prop where
  settled : s.lstep ≠ .ls2 → s.lstep ≠ .ls3 → s.outA = wantA s.level ∧ s.outB = wantB s.level
  betweenA : s.lstep = .ls3 → s.lineOrder = .aFirst → s.outA = wantA s.level
  betweenB : s.lstep = .ls3 → s.lineOrder = .bFirst → s.outB = wantB s.level

/-- The marker counts the fan checks since the last reset (44_mainloop.md R126, 60_exceptions.md R145), of which each
emits one `wdt_kick`; `base` of the refreshes in the record are from before that reset. -/
def MarkerCountsChecks (base : Nat) (s : State) : Prop :=
  ∃ k, kicks s.obs = base + k ∧ s.lastFanCheck = k * s.par.fanInterval % s.par.tickRange

/-- Every tick count is below 2^`TICK_W` (10_state.md R20, R29, R30). -/
structure TickCountsInRange (s : State) : Prop where
  tick : s.tick < s.par.tickRange
  snapTick : s.snapTick < s.par.tickRange
  lastFanCheck : s.lastFanCheck < s.par.tickRange

/-- In standard mode the reference filter holds the calibration baseline (43_fan.md R118; log 26). -/
def StdBaseline (s : State) : Prop := s.fanMode = .std → s.fanRef = SampleBuffer.ofSlots s.par.fanrefInit

/-- The two emitters are never on together (41_scheduler.md R89). -/
def EmittersExclusive (s : State) : Prop := ¬ (s.emitNear = true ∧ s.emitFar = true)

/-! ### Views -/

/-- What the TICK agent writes, with what it reads of the startup path (10_state.md R39, 20_memory.md R51) and the
parameters. -/
structure TickView where
  par : Config.Params
  near : SampleBuffer 3
  far : SampleBuffer 3
  amb : SampleBuffer 3
  fanSig : SampleBuffer 4
  fanRef : SampleBuffer 4
  tick : Nat
  muxCfg : MuxCfg
  emitNear : Bool
  emitFar : Bool
  running : Bool
  fanMode : FanMode
deriving DecidableEq, Repr

/-- The TICK agent's view of a state. -/
def State.tickView (s : State) : TickView :=
  ⟨s.par, s.near, s.far, s.amb, s.fanSig, s.fanRef, s.tick, s.muxCfg, s.emitNear, s.emitFar, s.running, s.fanMode⟩

/-- The state with the record of observable events and the `adc` and `mode_sel` ports left out of sight: what
the block itself holds. -/
def State.blockView (s : State) : State := { s with obs := [], adc := 0, modeSel := true }

/-- An event is a step of the LOOP agent. -/
def isLoopEvent : Event → Bool
  | .loop _ => true
  | _ => false

/-- An event is a reset. -/
def isResetEvent : Event → Bool
  | .reset _ => true
  | _ => false

/-- The sum of the last n values of a list of readings. -/
def lastSum (n : Nat) (vs : List Reading) : Nat := ((vs.drop (vs.length - n)).map BitVec.toNat).sum

/-- A filter after a list of readings, in order (40_filter.md R73). -/
def SampleBuffer.updates {k : Nat} (f : SampleBuffer k) (vs : List Reading) : SampleBuffer k :=
  vs.foldl (fun f v => (f.update v).1) f

/-- The total of the readings of a list of consecutive TICK steps, the first at the given selector, that fall on the
given phases. -/
def routedSum (phases : List Nat) : BitVec 5 → List Reading → Nat
  | _, [] => 0
  | sel, v :: vs => (if (phaseOf sel).toNat ∈ phases then v.toNat else 0) + routedSum phases (sel + 1) vs

/-- The observable events an operation adds to the record (20_memory.md R55), from `s` to `t`: the writes it makes, in
order. `TICK` and `LOOP` add those of the slot and of the step they run. -/
def recordedWrites (i : Instr) (s t : State) : List Obs :=
  match i with
  | .ph0Fan _ | .phNear3 _ | .phNear6 _ | .phNear9 _ => [.emitFar s.tick true]
  | .phAmb1 _ | .phAmb4 _ | .phAmb7 _ | .phAmb10 _ => [.emitFar s.tick false, .emitNear s.tick true]
  | .phFar2 _ | .phFar5 _ | .phFar8 _ => [.emitNear s.tick false]
  | .ph11FarMuxfan b => [.emitNear s.tick false, .muxCfg s.tick (fanCfg s.fanMode b)]
  | .ph15Muxphoto _ => [.muxCfg s.tick .photo]
  | .ls2Outw1 => [if s.lineOrder = .aFirst then .outA (wantA s.level) else .outB (wantB s.level)]
  | .ls3Outw2 => [if s.lineOrder = .aFirst then .outB (wantB s.level) else .outA (wantA s.level)]
  | .ls6Fancheck => if t.fanOn = s.fanOn then [.wdtKick] else [.fanOn t.fanOn, .wdtKick]
  | .reset _ => [.muxCfg s.tick .photo, .emitNear s.tick false, .emitFar s.tick false, .fanOn false, .outA false,
      .outB false]
  | .ph12Near _ | .phDiscard13 _ | .phDiscard14 _ | .ls0Snap3 | .ls1Classify | .ls4Ticksnap | .ls5Gate | .start
  | .tick _ | .loop _ => []

end Sys2Proof.Machine
end

