-- ==== Sys2Proof/Certificates/Slice0/Obligations.lean ====
section
/-! DEFINITION. The statements for the provers. Where a statement rests on a choice of the spec's own or of the
model's, its docstring names the log entry or the decision. -/

open Sys2Proof Sys2Proof.Machine

/-! ### Encodings -/

/-- The examples of 30_encoding.md R65, the ends of the slot map and of the loop's codes: words written out from
the spec decode to the operations they stand for. -/
def Obligations.SpecWordsDecode : Prop :=
  decodeEvt16 0x0001 = .ok (.reset true) ∧ decodeEvt16 0x1000 = .ok .start ∧
  decodeEvt16 0x2200 = .ok (.tick 512) ∧ decodeEvt16 0x23FF = .ok (.tick 1023) ∧
  decodeEvt16 0x3001 = .ok (.loop true) ∧ decodeEvt16 0x3000 = .ok (.loop false) ∧
  decodePhase5 0b00000 = .ph0Fan false ∧ decodePhase5 0b11011 = .ph11FarMuxfan true ∧
  decodePhase5 0b01111 = .ph15Muxphoto false ∧ decodeLstep3 0b110 = .ok .ls6Fancheck

/-- 30_encoding.md R57: the slot of every phase, the same for both values of `b`, and the repeating pattern
ambient, far, near of the phases 1 to 12. -/
def Obligations.SlotMapDecodesEveryPhase : Prop :=
  (∀ b : Bool, ∀ o : BitVec 5, o = (if b then 16 else 0) →
    decodePhase5 (o + 0) = .ph0Fan b ∧ decodePhase5 (o + 1) = .phAmb1 b ∧ decodePhase5 (o + 2) = .phFar2 b ∧
    decodePhase5 (o + 3) = .phNear3 b ∧ decodePhase5 (o + 4) = .phAmb4 b ∧ decodePhase5 (o + 5) = .phFar5 b ∧
    decodePhase5 (o + 6) = .phNear6 b ∧ decodePhase5 (o + 7) = .phAmb7 b ∧ decodePhase5 (o + 8) = .phFar8 b ∧
    decodePhase5 (o + 9) = .phNear9 b ∧ decodePhase5 (o + 10) = .phAmb10 b ∧
    decodePhase5 (o + 11) = .ph11FarMuxfan b ∧ decodePhase5 (o + 12) = .ph12Near b ∧
    decodePhase5 (o + 13) = .phDiscard13 b ∧ decodePhase5 (o + 14) = .phDiscard14 b ∧
    decodePhase5 (o + 15) = .ph15Muxphoto b) ∧
  (∀ p : BitVec 4, 1 ≤ p.toNat → p.toNat ≤ 12 →
    (p.toNat % 3 = 1 → slotClass p = .phAmb) ∧
    (p.toNat % 3 = 2 → slotClass p = .phFar ∨ slotClass p = .ph11FarMuxfan) ∧
    (p.toNat % 3 = 0 → slotClass p = .phNear ∨ slotClass p = .ph12Near))

/-- The codes of 30_encoding.md R62 (`muxCfg`), R63 (the level) and R64 (`lstep`), number by number, with the step each
`lstep` code is decoded to and the word of that step; code 7 is rejected. The numbers are the spec's decisions D12, D13
and D15 (log 14, log 22). -/
def Obligations.CodesNameTheirSteps : Prop :=
  (MuxCfg.photo.code = 0b00 ∧ MuxCfg.fanStd.code = 0b01 ∧ MuxCfg.fanHsSig.code = 0b10 ∧
    MuxCfg.fanHsRef.code = 0b11) ∧
  (Level.off.code = 0b00 ∧ Level.approaching.code = 0b01 ∧ Level.on.code = 0b10 ∧ Level.saturated.code = 0b11) ∧
  (LStep.ls0.code = 0 ∧ LStep.ls1.code = 1 ∧ LStep.ls2.code = 2 ∧ LStep.ls3.code = 3 ∧ LStep.ls4.code = 4 ∧
    LStep.ls5.code = 5 ∧ LStep.ls6.code = 6) ∧
  (decodeLstep3 0 = .ok .ls0Snap3 ∧ decodeLstep3 1 = .ok .ls1Classify ∧ decodeLstep3 2 = .ok .ls2Outw1 ∧
    decodeLstep3 3 = .ok .ls3Outw2 ∧ decodeLstep3 4 = .ok .ls4Ticksnap ∧ decodeLstep3 5 = .ok .ls5Gate ∧
    decodeLstep3 6 = .ok .ls6Fancheck ∧ decodeLstep3 7 = .error .unusedLstep) ∧
  (∀ l : LStep, decodeLstep3 l.code = .ok l.instr ∧ encode l.instr = l.code.setWidth 16) ∧
  (FanMode.std.code = 0 ∧ FanMode.hs.code = 1)

/-- Decoding an encoded well-formed operation gives it back, for every operation and every operand. -/
def Obligations.DecodeOfEncode : Prop :=
  ∀ i : Instr, i.wf = true → decode i.format (encode i) = .ok i

/-- Encoding a decoded operation gives the word back, so no word has a second reading and no bit is dropped. -/
def Obligations.EncodeOfDecode : Prop :=
  ∀ (f : Format) (w : BitVec 16) (i : Instr), decode f w = .ok i → i.format = f ∧ encode i = w

/-- 30_encoding.md R59, R65: exactly the words of the four kinds with their zero fields zero are events; a step
refuses any other word by name. The refusal is the spec's decision D25 (log 18). -/
def Obligations.MalformedEventsAreRefused : Prop :=
  (∀ w : EventWord, (∃ i, decodeEvt16 w = .ok i) ↔
    w.toNat ≤ 1 ∨ w.toNat = 0x1000 ∨ (0x2000 ≤ w.toNat ∧ w.toNat ≤ 0x23FF) ∨
      (0x3000 ≤ w.toNat ∧ w.toNat ≤ 0x3001)) ∧
  (∀ (s : State) (w : EventWord) (rest : List EventWord), s.inputs = w :: rest →
    (¬ ∃ i, decodeEvt16 w = .ok i) → ∃ r, step s = .refused (.malformedEvent r))

/-- The table of control words (30_encoding.md R60, decision D22): every word of it is well formed, and the TICK
step it drives is the TICK step of the slot rules. -/
def Obligations.ControlTableDrivesTheSchedule : Prop :=
  (∀ p : BitVec 4, ControlWord.wf (controlRom p) = true) ∧ ∀ s : State, controlTickStep s = .ok (tickStep s)

/-! ### The step -/

/-- A step takes the first queued event and executes it; with none queued it executes the environment's next
event, a free draw (log 1). -/
def Obligations.StepRunsTheNextEvent : Prop :=
  (∀ (s : State) (w : EventWord) (rest : List EventWord) (i : Instr), s.inputs = w :: rest →
    decodeEvt16 w = .ok i → step s = exec i { s with inputs := rest }) ∧
  (∀ s : State, s.inputs = [] →
    step s = exec (Config.envEvent s.envDraws).instr { s with envDraws := s.envDraws + 1 })

/-- `TICK v` runs the operation decoded from `tick[4:0]` as it stands on entry, on a state whose `adc` port shows
`v`. That a slot's row includes the advance of `tick` is log 11. -/
def Obligations.TickRunsTheDecodedSlot : Prop :=
  ∀ (v : Reading) (s : State), exec (.tick v) s = exec (decodePhase5 (selectorOf s.tick)) (s.withAdc v)

/-- `LOOP mode=m` runs the operation decoded from `lstep` while the LOOP agent is enabled, and changes nothing
while it is not (44_mainloop.md R120, R121, 30_encoding.md R66; decisions D15, D16, log 12). -/
def Obligations.LoopRunsTheDecodedStep : Prop :=
  ∀ (m : Bool) (s : State),
    (s.running = true → ∃ i t, decodeLstep3 s.lstep.code = .ok i ∧
      exec i (s.withModeSel m) = .next t ∧ exec (.loop m) s = .next t) ∧
    (s.running = false → exec (.loop m) s = .next s)

/-- A word of the opcode table placed where the machine fetches is what the next step runs (log 20). -/
def Obligations.PlacedTableWordRuns : Prop :=
  ∀ (s : State) (nbits w : Nat) (i : Instr), decodeTableWord nbits w = some i →
    step (s.withFetchWord nbits w) =
      exec i { s with
        tick := (s.withFetchWord nbits w).tick
        lstep := (s.withFetchWord nbits w).lstep
        running := (s.withFetchWord nbits w).running }

/-- 60_exceptions.md R135: no operation faults or is refused, from any state; a step is refused for a malformed
queued word and for nothing else. -/
def Obligations.NoOperationStops : Prop :=
  (∀ (i : Instr) (s : State), ∃ t, exec i s = .next t) ∧
  (∀ s : State, (∀ w rest, s.inputs = w :: rest → ∃ i, decodeEvt16 w = .ok i) → ∃ t, step s = .next t)

/-! ### The filter -/

/-- 40_filter.md R70: the value returned, the one slot overwritten, every other slot kept, the sum adjusted
exactly, the index advanced modulo D. -/
def Obligations.FilterUpdateRule : Prop :=
  ∀ (k : Nat) (f : SampleBuffer k) (v : Reading), f.Wf →
    (f.update v).2 = f.memRead f.idx ∧
    (f.update v).1.memRead f.idx = v ∧
    (∀ i, i ≠ f.idx → (f.update v).1.memRead i = f.memRead i) ∧
    (f.update v).1.sum.toNat + (f.memRead f.idx).toNat = f.sum.toNat + v.toNat ∧
    (f.update v).1.idx.toNat = (f.idx.toNat + 1) % 2 ^ k

/-- 40_filter.md R73: after at least D updates the sum is that of the D most recent readings, whatever stood in
the filter before; after fewer, from a filter of zeros, it is the sum of all the readings. -/
def Obligations.FilterWindowSum : Prop :=
  (∀ (k : Nat) (f : SampleBuffer k) (vs : List Reading), f.Wf → 2 ^ k ≤ vs.length →
    (f.updates vs).sum.toNat = lastSum (2 ^ k) vs) ∧
  (∀ (k : Nat) (vs : List Reading), vs.length ≤ 2 ^ k →
    ((SampleBuffer.zero k).updates vs).sum.toNat = (vs.map BitVec.toNat).sum)

/-- 10_state.md R12: the filter invariant holds at reset and every step from any state that meets it keeps it;
every index is below the depth. -/
def Obligations.FilterInvariantAlways : Prop :=
  FiltersWf State.reset ∧
  (∀ s t : State, FiltersWf s → step s = .next t → FiltersWf t) ∧
  (∀ s : State, s.near.idx.toNat < 8 ∧ s.far.idx.toNat < 8 ∧ s.amb.idx.toNat < 8 ∧
    s.fanSig.idx.toNat < 16 ∧ s.fanRef.idx.toNat < 16)

/-! ### The scheduler -/

/-- 41_scheduler.md R80: the fan slot, run at the tick counts 0 and 16 modulo 32, and in standard mode no slot
writes `FANREF`; the near emitter is off before phase 0 in every run (R89). The record of observable events is left
open here (`w`). -/
def Obligations.FanSlotRule : Prop :=
  (∀ t : Nat, (t % 32 = 0 → decodePhase5 (selectorOf t) = .ph0Fan false) ∧
    (t % 32 = 16 → decodePhase5 (selectorOf t) = .ph0Fan true)) ∧
  (∀ (b : Bool) (s : State), ∃ w, exec (.ph0Fan b) s = .next { s with
    fanRef := if s.running = true ∧ s.fanMode = .hs ∧ b = true then (s.fanRef.update s.adc).1 else s.fanRef
    fanSig := if s.running = true ∧ ¬ (s.fanMode = .hs ∧ b = true) then (s.fanSig.update s.adc).1 else s.fanSig
    emitFar := true
    tick := (s.tick + 1) % 2 ^ s.par.tickW
    obs := w }) ∧
  (∀ (i : Instr) (s t : State), i.format = .phase5 → s.fanMode = .std → exec i s = .next t → t.fanRef = s.fanRef) ∧
  (∀ s : State, LinesFollowPhase s → phaseOf (selectorOf s.tick) = 0 → s.emitNear = false)

/-- 41_scheduler.md R81: the near slots, phases 3, 6, 9. -/
def Obligations.NearSlotRule : Prop :=
  ∀ (b : Bool) (o : BitVec 5), o = (if b then 16 else 0) →
    decodePhase5 (o + 3) = .phNear3 b ∧ decodePhase5 (o + 6) = .phNear6 b ∧ decodePhase5 (o + 9) = .phNear9 b ∧
    ∀ i ∈ [Instr.phNear3 b, .phNear6 b, .phNear9 b], ∀ s : State, ∃ w, exec i s = .next { s with
      near := if s.running then (s.near.update s.adc).1 else s.near
      emitFar := true
      tick := (s.tick + 1) % 2 ^ s.par.tickW
      obs := w }

/-- 41_scheduler.md R82: the ambient slots, phases 1, 4, 7, 10; the far emitter is written first. -/
def Obligations.AmbientSlotRule : Prop :=
  ∀ (b : Bool) (o : BitVec 5), o = (if b then 16 else 0) →
    decodePhase5 (o + 1) = .phAmb1 b ∧ decodePhase5 (o + 4) = .phAmb4 b ∧ decodePhase5 (o + 7) = .phAmb7 b ∧
    decodePhase5 (o + 10) = .phAmb10 b ∧
    ∀ i ∈ [Instr.phAmb1 b, .phAmb4 b, .phAmb7 b, .phAmb10 b], ∀ s : State, exec i s = .next { s with
      amb := if s.running then (s.amb.update s.adc).1 else s.amb
      emitFar := false
      emitNear := true
      tick := (s.tick + 1) % 2 ^ s.par.tickW
      obs := s.obs ++ [.emitFar s.tick false, .emitNear s.tick true] }

/-- 41_scheduler.md R83: the far slots, phases 2, 5, 8; the far emitter is off before them in every run (R89). -/
def Obligations.FarSlotRule : Prop :=
  (∀ (b : Bool) (o : BitVec 5), o = (if b then 16 else 0) →
    decodePhase5 (o + 2) = .phFar2 b ∧ decodePhase5 (o + 5) = .phFar5 b ∧ decodePhase5 (o + 8) = .phFar8 b ∧
    ∀ i ∈ [Instr.phFar2 b, .phFar5 b, .phFar8 b], ∀ s : State, ∃ w, exec i s = .next { s with
      far := if s.running then (s.far.update s.adc).1 else s.far
      emitNear := false
      tick := (s.tick + 1) % 2 ^ s.par.tickW
      obs := w }) ∧
  (∀ s : State, LinesFollowPhase s → slotClass (phaseOf (selectorOf s.tick)) = .phFar → s.emitFar = false)

/-- 41_scheduler.md R84 with the table of R93 (decision D12, log 14): phase 11, the multiplexer turned to the
fan channel whatever `running` is. -/
def Obligations.FarMuxFanSlotRule : Prop :=
  decodePhase5 0b01011 = .ph11FarMuxfan false ∧ decodePhase5 0b11011 = .ph11FarMuxfan true ∧
  (∀ b : Bool, fanCfg .std b = .fanStd) ∧ fanCfg .hs true = .fanHsSig ∧ fanCfg .hs false = .fanHsRef ∧
  ∀ (b : Bool) (s : State), ∃ w, exec (.ph11FarMuxfan b) s = .next { s with
    far := if s.running then (s.far.update s.adc).1 else s.far
    emitNear := false
    muxCfg := fanCfg s.fanMode b
    tick := (s.tick + 1) % 2 ^ s.par.tickW
    obs := w }

/-- 41_scheduler.md R85: phase 12 writes the near filter and no line; both emitters are off there in every run
(R89). -/
def Obligations.NearNoLineSlotRule : Prop :=
  decodePhase5 0b01100 = .ph12Near false ∧ decodePhase5 0b11100 = .ph12Near true ∧
  (∀ (b : Bool) (s : State), exec (.ph12Near b) s = .next { s with
    near := if s.running then (s.near.update s.adc).1 else s.near
    tick := (s.tick + 1) % 2 ^ s.par.tickW }) ∧
  (∀ s : State, LinesFollowPhase s → phaseOf (selectorOf s.tick) = 12 → s.emitNear = false ∧ s.emitFar = false)

/-- 41_scheduler.md R86: phases 13 and 14 change nothing but `tick`, so the reading is dropped. -/
def Obligations.DiscardSlotRule : Prop :=
  ∀ (b : Bool) (o : BitVec 5), o = (if b then 16 else 0) →
    decodePhase5 (o + 13) = .phDiscard13 b ∧ decodePhase5 (o + 14) = .phDiscard14 b ∧
    ∀ i ∈ [Instr.phDiscard13 b, .phDiscard14 b], ∀ s : State, exec i s = .next { s with
      tick := (s.tick + 1) % 2 ^ s.par.tickW }

/-- 41_scheduler.md R87: phase 15 turns the multiplexer back, whatever `running` is, and drops the reading. -/
def Obligations.MuxPhotoSlotRule : Prop :=
  decodePhase5 0b01111 = .ph15Muxphoto false ∧ decodePhase5 0b11111 = .ph15Muxphoto true ∧
  ∀ (b : Bool) (s : State), ∃ w, exec (.ph15Muxphoto b) s = .next { s with
    muxCfg := .photo
    tick := (s.tick + 1) % 2 ^ s.par.tickW
    obs := w }

/-- What each operation adds to the record of observable events (20_memory.md R55), in order: exactly its writes. `LS6`
writes `fanOn` exactly when it changes it (43_fan.md R112, R113); `LS2` and `LS3` write the line the iteration's order
gives; a RESET writes every observable register (10_state.md R21, R22, R27, R33). `TICK` and `LOOP` add what the slot
and the step they run add. Nothing is ever taken out of the record. Its form and the order of a RESET's writes are log
13. -/
def Obligations.OperationsRecordTheirWrites : Prop :=
  (∀ (i : Instr) (s t : State), (∀ v, i ≠ .tick v) → (∀ m, i ≠ .loop m) → exec i s = .next t →
    t.obs = s.obs ++ recordedWrites i s t) ∧
  (∀ (v : Reading) (s t : State), exec (.tick v) s = .next t →
    t.obs = s.obs ++ recordedWrites (decodePhase5 (selectorOf s.tick)) s t) ∧
  (∀ (m : Bool) (s t : State), exec (.loop m) s = .next t →
    t.obs = s.obs ++ if s.running = true then recordedWrites s.lstep.instr s t else [])

/-- 41_scheduler.md R75 and R76: one TICK step completes from every state, with every register written out. The filter
it writes is the one the control word of the phase routes to (30_encoding.md R60, R58; decision D22, log 28), updated
with the reading when `running` is set; the emitters and the multiplexer are as the word says; `tick` advances once
modulo 2^`TICK_W` whatever `running` is. The record is left open here (`w`). -/
def Obligations.TickStepFrame : Prop :=
  ∀ (v : Reading) (s : State), ∃ (cw : ControlWord) (dest : Option BufId) (w : List Obs),
    decodeControl (controlRom (phaseOf (selectorOf s.tick))) = .ok cw ∧
    dest = (if s.running = true then routeBuf cw.route s.fanMode (outerOf (selectorOf s.tick)) else none) ∧
    exec (.tick v) s = .next { s with
      near := if dest = some .near then (s.near.update v).1 else s.near
      far := if dest = some .far then (s.far.update v).1 else s.far
      amb := if dest = some .amb then (s.amb.update v).1 else s.amb
      fanSig := if dest = some .fanSig then (s.fanSig.update v).1 else s.fanSig
      fanRef := if dest = some .fanRef then (s.fanRef.update v).1 else s.fanRef
      emitNear := if cw.nearSet = true then true else if cw.nearClr = true then false else s.emitNear
      emitFar := if cw.farSet = true then true else if cw.farClr = true then false else s.emitFar
      muxCfg := if cw.muxFan = true then fanCfg s.fanMode (outerOf (selectorOf s.tick))
        else if cw.muxPhoto = true then .photo else s.muxCfg
      adc := v
      tick := (s.tick + 1) % 2 ^ s.par.tickW
      obs := w }

/-- 41_scheduler.md R77 (decision D32, log 15): with `running` clear a slot changes no filter, and it drives the
lines and advances `tick` exactly as it does with `running` set. -/
def Obligations.RunningGatesOnlyTheFilters : Prop :=
  ∀ (i : Instr) (s t u : State), i.format = .phase5 → s.running = false → exec i s = .next t →
    exec i { s with running := true } = .next u →
    t.near = s.near ∧ t.far = s.far ∧ t.amb = s.amb ∧ t.fanSig = s.fanSig ∧ t.fanRef = s.fanRef ∧
    t.emitNear = u.emitNear ∧ t.emitFar = u.emitFar ∧ t.muxCfg = u.muxCfg ∧ t.tick = u.tick ∧ t.obs = u.obs

/-- 41_scheduler.md R89: every step keeps the lines a function of the phase of the last tick. -/
def Obligations.LinesFollowThePhase : Prop :=
  ∀ s t : State, s.par.wf = true → LinesFollowPhase s → step s = .next t → LinesFollowPhase t

/-- 41_scheduler.md R89: where the lines follow the phase the emitters are never on together, and both are off
from phase 11 until phase 0. -/
def Obligations.EmittersNeverTogether : Prop :=
  ∀ s : State, LinesFollowPhase s → EmittersExclusive s ∧
    (11 ≤ (phaseOf (selectorOf s.tick - 1)).toNat → s.emitNear = false ∧ s.emitFar = false)

/-- 41_scheduler.md R91: in any 16 consecutive TICK steps with `running` set each proximity filter takes four
readings and the fan filters one between them, `FANSIG` in standard mode. -/
def Obligations.SixteenTicksRouteFourEach : Prop :=
  ∀ (s t : State) (vs : List Reading), s.par.wf = true → s.running = true → vs.length = 16 →
    runEvents (vs.map .tick) s = .next t →
    t.near.idx = s.near.idx + 4 ∧ t.far.idx = s.far.idx + 4 ∧ t.amb.idx = s.amb.idx + 4 ∧
    ((t.fanSig.idx = s.fanSig.idx + 1 ∧ t.fanRef = s.fanRef) ∨
      (s.fanMode = .hs ∧ t.fanSig = s.fanSig ∧ t.fanRef.idx = s.fanRef.idx + 1)) ∧
    t.tick = (s.tick + 16) % 2 ^ s.par.tickW

/-- 70_reset_and_hazards.md R163: after any 32 consecutive TICK steps with `running` set each proximity sum is
the sum of the eight readings of its channel among them. -/
def Obligations.ThirtyTwoTicksRefreshTheSums : Prop :=
  ∀ (s t : State) (vs : List Reading), s.par.wf = true → FiltersWf s → s.running = true → vs.length = 32 →
    runEvents (vs.map .tick) s = .next t →
    t.near.sum.toNat = routedSum [3, 6, 9, 12] (selectorOf s.tick) vs ∧
    t.far.sum.toNat = routedSum [2, 5, 8, 11] (selectorOf s.tick) vs ∧
    t.amb.sum.toNat = routedSum [1, 4, 7, 10] (selectorOf s.tick) vs

/-! ### The classifier and the lines -/

/-- 42_classifier.md R101: the whole function, with R97 to R100, and the worked cases of the spec. -/
def Obligations.ClassifyRule : Prop :=
  (∀ (near far amb : Nat) (mode : Bool), classify near far amb mode =
    if 6960 ≤ near ∨ 6960 ≤ far then .saturated
    else if mode = false then (if 240 ≤ near - amb then .on else .off)
    else if far - amb < near - amb ∧ 80 ≤ far - amb then .on
    else if 80 ≤ far - amb ∧ 5 * (far - amb) ≤ 6 * (near - amb) then .approaching
    else .off) ∧
  classify 240 0 0 true = .off ∧ classify 300 100 0 true = .on ∧ classify 100 90 0 true = .on ∧
  classify 80 90 0 true = .approaching ∧ (∀ far, far < 6960 → classify 200 far 0 false = .off) ∧
  (∀ far, far < 6960 → classify 260 far 0 false = .on)

/-- 42_classifier.md R105: monotone in the near sum, never `Approaching` in simple mode, `Off` below the far
threshold in differential mode, independent of the ambient sum when saturated; and `LS1` run twice on one
snapshot with the line steady gives the same level. -/
def Obligations.ClassifierProperties : Prop :=
  (∀ (near near' far amb : Nat) (mode : Bool), near ≤ near' →
    (classify near far amb mode).code.toNat ≤ (classify near' far amb mode).code.toNat) ∧
  (∀ near far amb, classify near far amb false ≠ .approaching) ∧
  (∀ near far amb, near < 6960 → far - amb < 80 → far < 6960 → classify near far amb true = .off) ∧
  (∀ near far amb amb' mode, 6960 ≤ near ∨ 6960 ≤ far → classify near far amb mode = classify near far amb' mode) ∧
  (∀ s t u, exec .ls1Classify s = .next t → exec .ls1Classify t = .next u → u.level = t.level)

/-- 42_classifier.md R95: `LS0` copies the three sums, at one instant, and changes nothing else. -/
def Obligations.SnapshotStepRule : Prop :=
  ∀ s : State, exec .ls0Snap3 s = .next { s with
    snapNear := s.near.sum, snapFar := s.far.sum, snapAmb := s.amb.sum, lstep := .ls1 }

/-- 42_classifier.md R96 (decision D28, log 25): `LS1` writes the level of the snapshot and changes nothing
else. -/
def Obligations.ClassifyStepRule : Prop :=
  ∀ s : State, exec .ls1Classify s = .next { s with
    level := classify s.snapNear.toNat s.snapFar.toNat s.snapAmb.toNat s.modeSel, lstep := .ls2 }

/-- 42_classifier.md R96 and 30_encoding.md R65 (decision D28): the level of `mode_sel` during a LOOP step
matters only to `LS1`, and there only when the snapshot is not saturated. -/
def Obligations.ModeSelectReadOnlyByClassify : Prop :=
  ∀ (m n : Bool) (s t u : State), exec (.loop m) s = .next t → exec (.loop n) s = .next u →
    (s.lstep ≠ .ls1 ∨ 6960 ≤ s.snapNear.toNat ∨ 6960 ≤ s.snapFar.toNat) → t.blockView = u.blockView

/-- 42_classifier.md R102 (the order is the open parameter of decision D14, log 2): each of `LS2` and `LS3`
writes exactly one line, the two together both, and nothing else but the record; `LS3` ends the iteration's
order. That the record grows by the written line (20_memory.md R55) is in the form of log 13. -/
def Obligations.LineWriteStepsRule : Prop :=
  ∀ s : State, ∃ a b : Bool, (a = true ↔ s.level = .approaching ∨ s.level = .saturated) ∧
    (b = true ↔ s.level = .on ∨ s.level = .saturated) ∧
    exec .ls2Outw1 s = .next { s with
      outA := if s.lineOrder = .aFirst then a else s.outA
      outB := if s.lineOrder = .aFirst then s.outB else b
      lstep := .ls3
      obs := s.obs ++ [if s.lineOrder = .aFirst then .outA a else .outB b] } ∧
    exec .ls3Outw2 s = .next { s with
      outA := if s.lineOrder = .aFirst then s.outA else a
      outB := if s.lineOrder = .aFirst then b else s.outB
      lstep := .ls4
      orderDraws := s.orderDraws + 1
      obs := s.obs ++ [if s.lineOrder = .aFirst then .outB b else .outA a] }

/-- 42_classifier.md R103, 70_reset_and_hazards.md R164: every step keeps the lines encoding `level` outside `LS2`
and `LS3`, and the line written first encoding it between the two. -/
def Obligations.LinesEncodeTheLevel : Prop :=
  ∀ s t : State, LinesEncodeLevel s → step s = .next t → LinesEncodeLevel t

/-- 42_classifier.md R104: after `LS2` the lines show a level that is neither the old nor the new one exactly for
the transitions between `Approaching` and `On` and between `Off` and `Saturated`; in every case each line shows
its old or its new value. -/
def Obligations.IntermediateLineStates : Prop :=
  ∀ (s t : State) (old : Level), s.outA = wantA old → s.outB = wantB old → exec .ls2Outw1 s = .next t →
    ((((t.outA, t.outB) ≠ (wantA old, wantB old)) ∧ ((t.outA, t.outB) ≠ (wantA s.level, wantB s.level))) ↔
      ((old, s.level) = (.approaching, .on) ∨ (old, s.level) = (.on, .approaching) ∨
        (old, s.level) = (.off, .saturated) ∨ (old, s.level) = (.saturated, .off))) ∧
    ((t.outA = wantA s.level ∧ t.outB = wantB old) ∨ (t.outA = wantA old ∧ t.outB = wantB s.level))

/-! ### The fan controller and the gate -/

/-- 43_fan.md R112, as `LS6` runs it (R110, R125): the fan on at the start of the check. `diff` is the natural
difference, zero where the signal is above the reference. -/
def Obligations.FanCheckWhileOn : Prop :=
  ∀ (s : State) (p : Config.FanProfile) (diff : Nat), s.fanOn = true → p = s.par.profile s.fanMode →
    diff = s.fanRef.sum.toNat - s.fanSig.sum.toNat →
    ∃ w, exec .ls6Fancheck s = .next { s with
      snapSig := s.fanSig.sum
      snapRef := s.fanRef.sum
      debounce :=
        if p.connThr ≤ diff ∧ diff ≤ p.offThr ∧ s.debounce ≠ 0 then s.debounce - 1 else s.debounce
      fanOn := if p.connThr ≤ diff ∧ diff ≤ p.offThr ∧ s.debounce = 0 then false else true
      lastFanCheck := (s.lastFanCheck + s.par.fanInterval) % 2 ^ s.par.tickW
      lstep := .ls0
      obs := w }

/-- 43_fan.md R113, as `LS6` runs it (R110, R125): the fan off at the start of the check. -/
def Obligations.FanCheckWhileOff : Prop :=
  ∀ (s : State) (p : Config.FanProfile) (diff : Nat), s.fanOn = false → p = s.par.profile s.fanMode →
    diff = s.fanRef.sum.toNat - s.fanSig.sum.toNat →
    ∃ w, exec .ls6Fancheck s = .next { s with
      snapSig := s.fanSig.sum
      snapRef := s.fanRef.sum
      debounce :=
        if s.fanRef.sum.toNat ≤ s.fanSig.sum.toNat ∨ diff < p.connThr ∨ p.onThr ≤ diff
        then s.par.onSeconds * s.par.fanCheckFreq - 1 else s.debounce
      fanOn :=
        if s.fanRef.sum.toNat ≤ s.fanSig.sum.toNat ∨ diff < p.connThr ∨ p.onThr ≤ diff then true else false
      lastFanCheck := (s.lastFanCheck + s.par.fanInterval) % 2 ^ s.par.tickW
      lstep := .ls0
      obs := w }

/-- 43_fan.md R114: with 0 < `CONN_THR` ≤ `OFF_THR` < `ON_THR` the turn-off band and the turn-on condition exclude
each other, and strictly between `OFF_THR` and `ON_THR` the fan keeps its state. -/
def Obligations.HysteresisBand : Prop :=
  ∀ (p : Config.FanProfile) (reload sig ref d : Nat) (on : Bool),
    0 < p.connThr → p.connThr ≤ p.offThr → p.offThr < p.onThr →
    ¬ (fanBand p (fanDiff sig ref) = true ∧ fanTrig p sig ref = true) ∧
    (p.offThr < fanDiff sig ref → fanDiff sig ref < p.onThr → fanNext p reload sig ref on d = (on, d))

/-- 43_fan.md R114: every step keeps the fan controller in its reachable states. -/
def Obligations.FanStateStaysLegal : Prop :=
  ∀ s t : State, FanStateLegal s → step s = .next t → FanStateLegal t

/-- 43_fan.md R117: a difference below the connected threshold leaves the fan on, in both modes; a signal at or
above the reference turns it on if it is off, and leaves it on where `CONN_THR` is not 0. -/
def Obligations.DisconnectedForcesFanOn : Prop :=
  ∀ (s : State) (sig ref conn : Nat), sig = s.fanSig.sum.toNat → ref = s.fanRef.sum.toNat →
    conn = (s.par.profile s.fanMode).connThr →
    (ref - sig < conn ∨ (ref ≤ sig ∧ (s.fanOn = false ∨ 0 < conn))) →
    ∃ t, exec .ls6Fancheck s = .next t ∧ t.fanOn = true

/-- 43_fan.md R116: the fan turns on with N − 1 checks still to pass, N = `ON_SECONDS × FAN_CHECK_FREQ`, and in
any run without a reset it stays on for as many fan checks as `debounce` counts; so it is on for N check
intervals. -/
def Obligations.MinimumOnTime : Prop :=
  (∀ s t : State, s.par.wf = true → s.fanOn = false → exec .ls6Fancheck s = .next t → t.fanOn = true →
    t.debounce + 1 = s.par.onSeconds * s.par.fanCheckFreq) ∧
  (∀ (es : List Event) (s t : State), (∀ e ∈ es, isResetEvent e = false) → s.fanOn = true →
    runEvents es s = .next t → kicks t.obs ≤ kicks s.obs + s.debounce → t.fanOn = true)

/-- 43_fan.md R115: each fan check emits exactly one `wdt_kick`, and no other operation emits one. A `LOOP` event
is a fan check when the LOOP agent is enabled and stands at `LS6`. -/
def Obligations.KicksOnlyFromFanChecks : Prop :=
  ∀ (i : Instr) (s t : State), exec i s = .next t →
    kicks t.obs = kicks s.obs +
      match i with
      | .ls6Fancheck => 1
      | .loop _ => if s.running = true ∧ s.lstep = .ls6 then 1 else 0
      | _ => 0

/-- 44_mainloop.md R122: `LS4` copies `tick` and changes nothing else. -/
def Obligations.TickSnapshotRule : Prop :=
  ∀ s : State, exec .ls4Ticksnap s = .next { s with snapTick := s.tick, lstep := .ls5 }

/-- 44_mainloop.md R123 (the strict comparison is decision D17, log 16): `LS5` goes to the fan check exactly when more
than an interval has passed, a difference modulo 2^`TICK_W` in the integers. -/
def Obligations.GateRule : Prop :=
  ∀ s : State, exec .ls5Gate s = .next { s with
    lstep := if (s.par.fanInterval : Int) < ((s.snapTick : Int) - s.lastFanCheck) % 2 ^ s.par.tickW
      then .ls6 else .ls0 }

/-- 44_mainloop.md R124: the difference modulo 2^`TICK_W` is the true number of ticks as long as that is below
2^`TICK_W`, and aliases from there on, for every width. -/
def Obligations.ElapsedIsTheTrueDifference : Prop :=
  (∀ w m n : Nat, n < 2 ^ w → elapsed (2 ^ w) ((m + n) % 2 ^ w) m = n) ∧
  (∀ w m n : Nat, elapsed (2 ^ w) ((m + (n + 2 ^ w)) % 2 ^ w) m = elapsed (2 ^ w) ((m + n) % 2 ^ w) m) ∧
  elapsed (2 ^ 16) 10 65300 = 246

/-- 44_mainloop.md R126: after the k-th fan check since reset the marker is k intervals modulo 2^`TICK_W`, in every
run: a RESET starts the count anew, and every other step keeps it. The checks are counted by their `wdt_kick`s in the
record (log 13); the reset value of the marker is decision D11 (log 7). -/
def Obligations.MarkerCountsTheChecks : Prop :=
  (∀ (hs : Bool) (s t : State), exec (.reset hs) s = .next t → MarkerCountsChecks (kicks s.obs) t) ∧
  (∀ (base : Nat) (s t : State), (∀ hs, (fetch s).1 ≠ .ok (.reset hs)) → MarkerCountsChecks base s →
    step s = .next t → MarkerCountsChecks base t)

/-- 43_fan.md R118 (decision D34, log 26): in standard mode no step changes the reference filter, so that it holds
the calibration baseline for the whole run. -/
def Obligations.StandardModeKeepsTheBaseline : Prop :=
  ∀ s t : State, StdBaseline s → step s = .next t → StdBaseline t

/-- 30_encoding.md R67: from `LS0` an iteration without ticks takes six LOOP steps, or seven when the gate fires,
and reaches `LS0` then and not before. -/
def Obligations.IterationReturnsToStart : Prop :=
  ∀ (m : Bool) (s : State), s.running = true → s.lstep = .ls0 →
    ((iterLength s = 7 ∧ gateFires s.par s.tick s.lastFanCheck = true) ∨
      (iterLength s = 6 ∧ gateFires s.par s.tick s.lastFanCheck = false)) ∧
    (∃ t, runEvents (List.replicate (iterLength s) (.loop m)) s = .next t ∧ t.lstep = .ls0) ∧
    (∀ n u, 0 < n → n < iterLength s → runEvents (List.replicate n (.loop m)) s = .next u → u.lstep ≠ .ls0)

/-! ### Reset, start and the two agents -/

/-- 44_mainloop.md R130 (decisions D31, D35, log 27): `START` sets `running` and changes nothing else. -/
def Obligations.StartRule : Prop :=
  ∀ s : State, exec .start s = .next { s with running := true }

/-- 70_reset_and_hazards.md R160, from any state: every register at the value the table gives. The values but
`running` and `fanMode` are the spec's decisions (log 6, log 7); that the parameters, the ports, the queue, the
environment's draws and the record stay is log 3, log 13 and log 19. -/
def Obligations.ResetRule : Prop :=
  ∀ (hs : Bool) (s : State), ∃ t, exec (.reset hs) s = .next t ∧
    (∀ i, t.near.memRead i = 0 ∧ t.far.memRead i = 0 ∧ t.amb.memRead i = 0) ∧
    (∀ i, t.fanSig.memRead i = 0 ∧ t.fanRef.memRead i = s.par.fanrefInit[i.toNat]) ∧
    (t.near.idx, t.far.idx, t.amb.idx, t.fanSig.idx, t.fanRef.idx) = (0, 0, 0, 0, 0) ∧
    (t.near.sum, t.far.sum, t.amb.sum, t.fanSig.sum) = (0, 0, 0, 0) ∧
    t.fanRef.sum.toNat = (s.par.fanrefInit.toList.map BitVec.toNat).sum ∧
    t.tick = 0 ∧ t.running = false ∧ t.fanMode = (if hs then .hs else .std) ∧ t.muxCfg = .photo ∧
    (t.emitNear, t.emitFar, t.fanOn, t.outA, t.outB) = (false, false, false, false, false) ∧
    t.debounce = 0 ∧ t.lastFanCheck = 0 ∧
    (t.snapNear, t.snapFar, t.snapAmb, t.snapTick, t.snapSig, t.snapRef) = (0, 0, 0, 0, 0, 0) ∧
    t.level = .off ∧ t.lstep = .ls0 ∧
    t.par = s.par ∧ t.adc = s.adc ∧ t.modeSel = s.modeSel ∧ t.fanStrapHs = hs ∧ t.inputs = s.inputs ∧
    t.envDraws = s.envDraws ∧ (∃ w, t.obs = s.obs ++ w)

/-- 60_exceptions.md R148: after a reset nothing of the block's state survives, so two runs of one machine (the same
parameters) reset with the same strap hold the same registers whatever they held before. What is outside the block (the
ports, the queue, the draws, the record) is left out. -/
def Obligations.ResetForgetsEverything : Prop :=
  ∀ (hs : Bool) (s s' t t' : State), s.par = s'.par → exec (.reset hs) s = .next t →
    exec (.reset hs) s' = .next t' →
    { t.blockView with inputs := [], envDraws := 0, orderDraws := 0 } =
      { t'.blockView with inputs := [], envDraws := 0, orderDraws := 0 }

/-- The reset state meets every invariant of Safety.lean, and its parameters their constraints, with the defaults of
00_scope.md R5; the values are the spec's decisions (log 3, log 4, log 6, log 7, log 8). -/
def Obligations.ResetMeetsTheInvariants : Prop :=
  FiltersWf State.reset ∧ LinesFollowPhase State.reset ∧ FanStateLegal State.reset ∧ LoopIdle State.reset ∧
  LinesEncodeLevel State.reset ∧ MarkerCountsChecks 0 State.reset ∧ StdBaseline State.reset ∧
  TickCountsInRange State.reset ∧ State.reset.par.wf = true ∧
  (State.reset.par.tickW, State.reset.par.timerFreq, State.reset.par.fanInterval, State.reset.par.fanCheckFreq,
    State.reset.par.outOrder) = (16, 8000, 500, 16, .any)

/-- 44_mainloop.md R121 (decision D16): every step keeps the LOOP agent at `LS0` while it is not enabled. -/
def Obligations.IdleLoopStandsAtStart : Prop :=
  ∀ s t : State, LoopIdle s → step s = .next t → LoopIdle t

/-- 10_state.md R39, the writers: a TICK step leaves every register of the startup path and of the LOOP agent, a
LOOP step every register of the TICK agent and of the startup path; and no operation changes a parameter (R38). -/
def Obligations.EachRegisterHasOneWriter : Prop :=
  ∀ (i : Instr) (s t : State), exec i s = .next t →
    t.par = s.par ∧
    ((i.format = .phase5 ∨ ∃ v, i = .tick v) →
      t.running = s.running ∧ t.fanMode = s.fanMode ∧ t.fanOn = s.fanOn ∧ t.debounce = s.debounce ∧
      t.lastFanCheck = s.lastFanCheck ∧ t.snapNear = s.snapNear ∧ t.snapFar = s.snapFar ∧ t.snapAmb = s.snapAmb ∧
      t.snapTick = s.snapTick ∧ t.snapSig = s.snapSig ∧ t.snapRef = s.snapRef ∧ t.level = s.level ∧
      t.lstep = s.lstep ∧ t.outA = s.outA ∧ t.outB = s.outB) ∧
    ((i.format = .lstep3 ∨ ∃ m, i = .loop m) → t.tickView = s.tickView)

/-- 20_memory.md R51: what the TICK agent does in a run is independent of the LOOP steps in it; leaving them all
out gives the same filters, `tick`, `muxCfg` and emitters. -/
def Obligations.TickAgentIgnoresTheLoop : Prop :=
  ∀ (es : List Event) (s t u : State), runEvents es s = .next t →
    runEvents (es.filter fun e => !isLoopEvent e) s = .next u → t.tickView = u.tickView

/-- 20_memory.md R48: a TICK step and a LOOP step outside the critical sections may be taken in either order; the
registers end the same. -/
def Obligations.TickCommutesWithPrivateLoopSteps : Prop :=
  ∀ (v : Reading) (m : Bool) (s t u : State),
    (s.lstep = .ls1 ∨ s.lstep = .ls2 ∨ s.lstep = .ls3 ∨ s.lstep = .ls5) →
    runEvents [.tick v, .loop m] s = .next t → runEvents [.loop m, .tick v] s = .next u →
    t.blockView = u.blockView

/-- 10_state.md R20, R29, R30: every step keeps every tick count below 2^`TICK_W`. -/
def Obligations.TickCountsStayInRange : Prop :=
  ∀ s t : State, TickCountsInRange s → step s = .next t → TickCountsInRange t
end

