-- ==== Sys2Proof/Laws/Filter.lean ====
section
/-! SUPPORT. The laws of the filters: reading after writing, what an update does, and that every operation on a
filter keeps the filter invariant of 10_state.md rule R12. -/

namespace Sys2Proof.Machine

variable {k : Nat}

@[simp] theorem memRead_memWrite_same (f : SampleBuffer k) (i : BitVec k) (v : Reading) :
    (f.memWrite i v).memRead i = v := by
  simp [SampleBuffer.memRead, SampleBuffer.memWrite]

theorem memRead_memWrite_other (f : SampleBuffer k) {i j : BitVec k} (v : Reading) (h : j ≠ i) :
    (f.memWrite i v).memRead j = f.memRead j := by
  have : i.toNat ≠ j.toNat := fun e => h (BitVec.eq_of_toNat_eq e.symm)
  simp [SampleBuffer.memRead, SampleBuffer.memWrite, this]

@[simp] theorem update_old (f : SampleBuffer k) (v : Reading) : (f.update v).2 = f.memRead f.idx := rfl

@[simp] theorem update_idx (f : SampleBuffer k) (v : Reading) : (f.update v).1.idx = f.idx + 1 := rfl

@[simp] theorem update_slot (f : SampleBuffer k) (v : Reading) :
    (f.update v).1.slot = f.slot.set f.idx.toNat v := rfl

@[simp] theorem update_sum (f : SampleBuffer k) (v : Reading) :
    (f.update v).1.sum = f.sum + v.setWidth (k + 10) - (f.memRead f.idx).setWidth (k + 10) := rfl

@[simp] theorem update_memRead (f : SampleBuffer k) (v : Reading) (i : BitVec k) :
    (f.update v).1.memRead i = (f.memWrite f.idx v).memRead i := rfl

/-- Replacing one element changes the total of a list by the difference of the two. -/
theorem sum_set_add (l : List Nat) (i v : Nat) (h : i < l.length) : (l.set i v).sum + l[i] = l.sum + v := by
  induction l generalizing i with
  | nil => simp at h
  | cons a l ih =>
    cases i with
    | zero => simp; omega
    | succ i =>
      have := ih i (by simpa using h)
      simp; omega

/-- The total of the slots after a write is off by exactly the difference of the two readings. -/
theorem slotSum_memWrite (f : SampleBuffer k) (i : BitVec k) (v : Reading) :
    (f.memWrite i v).slotSum + (f.memRead i).toNat = f.slotSum + v.toNat := by
  have h : i.toNat < (f.slot.toList.map BitVec.toNat).length := by simpa using i.isLt
  have := sum_set_add _ _ v.toNat h
  simpa [SampleBuffer.slotSum, SampleBuffer.memWrite, SampleBuffer.memRead, Vector.toList_set, List.map_set]
    using this

/-- A list of readings sums to at most 1023 for each. -/
theorem sum_readings_le (l : List Reading) : (l.map BitVec.toNat).sum ≤ l.length * 1023 := by
  induction l with
  | nil => simp
  | cons a l ih => have := a.isLt; simp; omega

/-- The bound of 40_filter.md rule R72. -/
theorem slotSum_le (f : SampleBuffer k) : f.slotSum ≤ 2 ^ k * 1023 := by
  simpa [SampleBuffer.slotSum] using sum_readings_le f.slot.toList

/-- The total of the slots fits the sum register (40_filter.md R72). -/
theorem slotSum_lt (f : SampleBuffer k) : f.slotSum < 2 ^ (k + 10) := by
  have := slotSum_le f
  have : 0 < 2 ^ k := Nat.pos_of_ne_zero (by simp)
  rw [Nat.pow_add]; omega

theorem slotSum_update (f : SampleBuffer k) (v : Reading) :
    (f.update v).1.slotSum = (f.memWrite f.idx v).slotSum := rfl

/-- An update keeps the filter invariant (40_filter.md R71). -/
theorem update_wf (f : SampleBuffer k) (v : Reading) (h : f.Wf) : (f.update v).1.Wf := by
  have e := slotSum_memWrite f f.idx v
  have hv := slotSum_lt (f.memWrite f.idx v)
  have hold : (f.memRead f.idx).toNat < 2 ^ (k + 10) :=
    Nat.lt_of_lt_of_le (f.memRead f.idx).isLt (Nat.pow_le_pow_right (by omega) (by omega))
  have hnew : v.toNat < 2 ^ (k + 10) :=
    Nat.lt_of_lt_of_le v.isLt (Nat.pow_le_pow_right (by omega) (by omega))
  unfold SampleBuffer.Wf at *
  rw [slotSum_update, update_sum, BitVec.toNat_sub, BitVec.toNat_add, BitVec.toNat_setWidth,
    BitVec.toNat_setWidth, Nat.mod_eq_of_lt hold, Nat.mod_eq_of_lt hnew, h]
  generalize 2 ^ (k + 10) = M at *
  rw [Nat.add_mod_mod,
    show M - (f.memRead f.idx).toNat + (f.slotSum + v.toNat) = (f.memWrite f.idx v).slotSum + M by omega,
    Nat.add_mod_right, Nat.mod_eq_of_lt hv]

/-- A filter made from readings meets the invariant (10_state.md R14). -/
theorem ofSlots_wf (v : Vector Reading (2 ^ k)) : (SampleBuffer.ofSlots v).Wf := by
  have := slotSum_lt (SampleBuffer.ofSlots v)
  simp only [SampleBuffer.Wf, SampleBuffer.ofSlots, SampleBuffer.slotSum] at *
  simpa using Nat.mod_eq_of_lt this

theorem zero_wf (k : Nat) : (SampleBuffer.zero k).Wf := ofSlots_wf _

/-- Every operation of State on a filter keeps the invariant of all five. -/
theorem filterUpdate_wf (b : BufId) (v : Reading) (s : State) (h : FiltersWf s) : FiltersWf (s.filterUpdate b v) := by
  obtain ⟨h1, h2, h3, h4, h5⟩ := h
  cases b <;> constructor <;> (first | assumption | (apply update_wf; assumption))

theorem accumulate_wf (b : BufId) (s : State) (h : FiltersWf s) : FiltersWf (s.accumulate b) := by
  unfold State.accumulate
  split
  · exact filterUpdate_wf b s.adc s h
  · exact h

end Sys2Proof.Machine
end

