-- ==== Sys2Proof/Laws/State.lean ====
section
/-! SUPPORT. One lemma per field per update of State, so that no later proof unfolds a record update. The
updates of a filter by buffer id, which are not plain record updates, stand at the end. -/

namespace Sys2Proof.Machine

/-! ### observe -/

@[simp] theorem observe_par (e : Obs) (s : State) : (s.observe e).par = s.par := rfl
@[simp] theorem observe_near (e : Obs) (s : State) : (s.observe e).near = s.near := rfl
@[simp] theorem observe_far (e : Obs) (s : State) : (s.observe e).far = s.far := rfl
@[simp] theorem observe_amb (e : Obs) (s : State) : (s.observe e).amb = s.amb := rfl
@[simp] theorem observe_fanSig (e : Obs) (s : State) : (s.observe e).fanSig = s.fanSig := rfl
@[simp] theorem observe_fanRef (e : Obs) (s : State) : (s.observe e).fanRef = s.fanRef := rfl
@[simp] theorem observe_tick (e : Obs) (s : State) : (s.observe e).tick = s.tick := rfl
@[simp] theorem observe_muxCfg (e : Obs) (s : State) : (s.observe e).muxCfg = s.muxCfg := rfl
@[simp] theorem observe_emitNear (e : Obs) (s : State) : (s.observe e).emitNear = s.emitNear := rfl
@[simp] theorem observe_emitFar (e : Obs) (s : State) : (s.observe e).emitFar = s.emitFar := rfl
@[simp] theorem observe_running (e : Obs) (s : State) : (s.observe e).running = s.running := rfl
@[simp] theorem observe_fanMode (e : Obs) (s : State) : (s.observe e).fanMode = s.fanMode := rfl
@[simp] theorem observe_fanOn (e : Obs) (s : State) : (s.observe e).fanOn = s.fanOn := rfl
@[simp] theorem observe_debounce (e : Obs) (s : State) : (s.observe e).debounce = s.debounce := rfl
@[simp] theorem observe_lastFanCheck (e : Obs) (s : State) : (s.observe e).lastFanCheck = s.lastFanCheck := rfl
@[simp] theorem observe_snapNear (e : Obs) (s : State) : (s.observe e).snapNear = s.snapNear := rfl
@[simp] theorem observe_snapFar (e : Obs) (s : State) : (s.observe e).snapFar = s.snapFar := rfl
@[simp] theorem observe_snapAmb (e : Obs) (s : State) : (s.observe e).snapAmb = s.snapAmb := rfl
@[simp] theorem observe_snapTick (e : Obs) (s : State) : (s.observe e).snapTick = s.snapTick := rfl
@[simp] theorem observe_snapSig (e : Obs) (s : State) : (s.observe e).snapSig = s.snapSig := rfl
@[simp] theorem observe_snapRef (e : Obs) (s : State) : (s.observe e).snapRef = s.snapRef := rfl
@[simp] theorem observe_lstep (e : Obs) (s : State) : (s.observe e).lstep = s.lstep := rfl
@[simp] theorem observe_level (e : Obs) (s : State) : (s.observe e).level = s.level := rfl
@[simp] theorem observe_outA (e : Obs) (s : State) : (s.observe e).outA = s.outA := rfl
@[simp] theorem observe_outB (e : Obs) (s : State) : (s.observe e).outB = s.outB := rfl
@[simp] theorem observe_adc (e : Obs) (s : State) : (s.observe e).adc = s.adc := rfl
@[simp] theorem observe_modeSel (e : Obs) (s : State) : (s.observe e).modeSel = s.modeSel := rfl
@[simp] theorem observe_fanStrapHs (e : Obs) (s : State) : (s.observe e).fanStrapHs = s.fanStrapHs := rfl
@[simp] theorem observe_inputs (e : Obs) (s : State) : (s.observe e).inputs = s.inputs := rfl
@[simp] theorem observe_envDraws (e : Obs) (s : State) : (s.observe e).envDraws = s.envDraws := rfl
@[simp] theorem observe_orderDraws (e : Obs) (s : State) : (s.observe e).orderDraws = s.orderDraws := rfl
@[simp] theorem observe_obs (e : Obs) (s : State) : (s.observe e).obs = s.obs ++ [e] := rfl

/-! ### writeEmitNear -/

@[simp] theorem writeEmitNear_par (on : Bool) (s : State) : (s.writeEmitNear on).par = s.par := rfl
@[simp] theorem writeEmitNear_near (on : Bool) (s : State) : (s.writeEmitNear on).near = s.near := rfl
@[simp] theorem writeEmitNear_far (on : Bool) (s : State) : (s.writeEmitNear on).far = s.far := rfl
@[simp] theorem writeEmitNear_amb (on : Bool) (s : State) : (s.writeEmitNear on).amb = s.amb := rfl
@[simp] theorem writeEmitNear_fanSig (on : Bool) (s : State) : (s.writeEmitNear on).fanSig = s.fanSig := rfl
@[simp] theorem writeEmitNear_fanRef (on : Bool) (s : State) : (s.writeEmitNear on).fanRef = s.fanRef := rfl
@[simp] theorem writeEmitNear_tick (on : Bool) (s : State) : (s.writeEmitNear on).tick = s.tick := rfl
@[simp] theorem writeEmitNear_muxCfg (on : Bool) (s : State) : (s.writeEmitNear on).muxCfg = s.muxCfg := rfl
@[simp] theorem writeEmitNear_emitNear (on : Bool) (s : State) : (s.writeEmitNear on).emitNear = on := rfl
@[simp] theorem writeEmitNear_emitFar (on : Bool) (s : State) : (s.writeEmitNear on).emitFar = s.emitFar := rfl
@[simp] theorem writeEmitNear_running (on : Bool) (s : State) : (s.writeEmitNear on).running = s.running := rfl
@[simp] theorem writeEmitNear_fanMode (on : Bool) (s : State) : (s.writeEmitNear on).fanMode = s.fanMode := rfl
@[simp] theorem writeEmitNear_fanOn (on : Bool) (s : State) : (s.writeEmitNear on).fanOn = s.fanOn := rfl
@[simp] theorem writeEmitNear_debounce (on : Bool) (s : State) : (s.writeEmitNear on).debounce = s.debounce := rfl
@[simp] theorem writeEmitNear_lastFanCheck (on : Bool) (s : State) : (s.writeEmitNear on).lastFanCheck = s.lastFanCheck := rfl
@[simp] theorem writeEmitNear_snapNear (on : Bool) (s : State) : (s.writeEmitNear on).snapNear = s.snapNear := rfl
@[simp] theorem writeEmitNear_snapFar (on : Bool) (s : State) : (s.writeEmitNear on).snapFar = s.snapFar := rfl
@[simp] theorem writeEmitNear_snapAmb (on : Bool) (s : State) : (s.writeEmitNear on).snapAmb = s.snapAmb := rfl
@[simp] theorem writeEmitNear_snapTick (on : Bool) (s : State) : (s.writeEmitNear on).snapTick = s.snapTick := rfl
@[simp] theorem writeEmitNear_snapSig (on : Bool) (s : State) : (s.writeEmitNear on).snapSig = s.snapSig := rfl
@[simp] theorem writeEmitNear_snapRef (on : Bool) (s : State) : (s.writeEmitNear on).snapRef = s.snapRef := rfl
@[simp] theorem writeEmitNear_lstep (on : Bool) (s : State) : (s.writeEmitNear on).lstep = s.lstep := rfl
@[simp] theorem writeEmitNear_level (on : Bool) (s : State) : (s.writeEmitNear on).level = s.level := rfl
@[simp] theorem writeEmitNear_outA (on : Bool) (s : State) : (s.writeEmitNear on).outA = s.outA := rfl
@[simp] theorem writeEmitNear_outB (on : Bool) (s : State) : (s.writeEmitNear on).outB = s.outB := rfl
@[simp] theorem writeEmitNear_adc (on : Bool) (s : State) : (s.writeEmitNear on).adc = s.adc := rfl
@[simp] theorem writeEmitNear_modeSel (on : Bool) (s : State) : (s.writeEmitNear on).modeSel = s.modeSel := rfl
@[simp] theorem writeEmitNear_fanStrapHs (on : Bool) (s : State) : (s.writeEmitNear on).fanStrapHs = s.fanStrapHs := rfl
@[simp] theorem writeEmitNear_inputs (on : Bool) (s : State) : (s.writeEmitNear on).inputs = s.inputs := rfl
@[simp] theorem writeEmitNear_envDraws (on : Bool) (s : State) : (s.writeEmitNear on).envDraws = s.envDraws := rfl
@[simp] theorem writeEmitNear_orderDraws (on : Bool) (s : State) : (s.writeEmitNear on).orderDraws = s.orderDraws := rfl
@[simp] theorem writeEmitNear_obs (on : Bool) (s : State) : (s.writeEmitNear on).obs = s.obs ++ [.emitNear s.tick on] := rfl

/-! ### writeEmitFar -/

@[simp] theorem writeEmitFar_par (on : Bool) (s : State) : (s.writeEmitFar on).par = s.par := rfl
@[simp] theorem writeEmitFar_near (on : Bool) (s : State) : (s.writeEmitFar on).near = s.near := rfl
@[simp] theorem writeEmitFar_far (on : Bool) (s : State) : (s.writeEmitFar on).far = s.far := rfl
@[simp] theorem writeEmitFar_amb (on : Bool) (s : State) : (s.writeEmitFar on).amb = s.amb := rfl
@[simp] theorem writeEmitFar_fanSig (on : Bool) (s : State) : (s.writeEmitFar on).fanSig = s.fanSig := rfl
@[simp] theorem writeEmitFar_fanRef (on : Bool) (s : State) : (s.writeEmitFar on).fanRef = s.fanRef := rfl
@[simp] theorem writeEmitFar_tick (on : Bool) (s : State) : (s.writeEmitFar on).tick = s.tick := rfl
@[simp] theorem writeEmitFar_muxCfg (on : Bool) (s : State) : (s.writeEmitFar on).muxCfg = s.muxCfg := rfl
@[simp] theorem writeEmitFar_emitNear (on : Bool) (s : State) : (s.writeEmitFar on).emitNear = s.emitNear := rfl
@[simp] theorem writeEmitFar_emitFar (on : Bool) (s : State) : (s.writeEmitFar on).emitFar = on := rfl
@[simp] theorem writeEmitFar_running (on : Bool) (s : State) : (s.writeEmitFar on).running = s.running := rfl
@[simp] theorem writeEmitFar_fanMode (on : Bool) (s : State) : (s.writeEmitFar on).fanMode = s.fanMode := rfl
@[simp] theorem writeEmitFar_fanOn (on : Bool) (s : State) : (s.writeEmitFar on).fanOn = s.fanOn := rfl
@[simp] theorem writeEmitFar_debounce (on : Bool) (s : State) : (s.writeEmitFar on).debounce = s.debounce := rfl
@[simp] theorem writeEmitFar_lastFanCheck (on : Bool) (s : State) : (s.writeEmitFar on).lastFanCheck = s.lastFanCheck := rfl
@[simp] theorem writeEmitFar_snapNear (on : Bool) (s : State) : (s.writeEmitFar on).snapNear = s.snapNear := rfl
@[simp] theorem writeEmitFar_snapFar (on : Bool) (s : State) : (s.writeEmitFar on).snapFar = s.snapFar := rfl
@[simp] theorem writeEmitFar_snapAmb (on : Bool) (s : State) : (s.writeEmitFar on).snapAmb = s.snapAmb := rfl
@[simp] theorem writeEmitFar_snapTick (on : Bool) (s : State) : (s.writeEmitFar on).snapTick = s.snapTick := rfl
@[simp] theorem writeEmitFar_snapSig (on : Bool) (s : State) : (s.writeEmitFar on).snapSig = s.snapSig := rfl
@[simp] theorem writeEmitFar_snapRef (on : Bool) (s : State) : (s.writeEmitFar on).snapRef = s.snapRef := rfl
@[simp] theorem writeEmitFar_lstep (on : Bool) (s : State) : (s.writeEmitFar on).lstep = s.lstep := rfl
@[simp] theorem writeEmitFar_level (on : Bool) (s : State) : (s.writeEmitFar on).level = s.level := rfl
@[simp] theorem writeEmitFar_outA (on : Bool) (s : State) : (s.writeEmitFar on).outA = s.outA := rfl
@[simp] theorem writeEmitFar_outB (on : Bool) (s : State) : (s.writeEmitFar on).outB = s.outB := rfl
@[simp] theorem writeEmitFar_adc (on : Bool) (s : State) : (s.writeEmitFar on).adc = s.adc := rfl
@[simp] theorem writeEmitFar_modeSel (on : Bool) (s : State) : (s.writeEmitFar on).modeSel = s.modeSel := rfl
@[simp] theorem writeEmitFar_fanStrapHs (on : Bool) (s : State) : (s.writeEmitFar on).fanStrapHs = s.fanStrapHs := rfl
@[simp] theorem writeEmitFar_inputs (on : Bool) (s : State) : (s.writeEmitFar on).inputs = s.inputs := rfl
@[simp] theorem writeEmitFar_envDraws (on : Bool) (s : State) : (s.writeEmitFar on).envDraws = s.envDraws := rfl
@[simp] theorem writeEmitFar_orderDraws (on : Bool) (s : State) : (s.writeEmitFar on).orderDraws = s.orderDraws := rfl
@[simp] theorem writeEmitFar_obs (on : Bool) (s : State) : (s.writeEmitFar on).obs = s.obs ++ [.emitFar s.tick on] := rfl

/-! ### writeMuxCfg -/

@[simp] theorem writeMuxCfg_par (c : MuxCfg) (s : State) : (s.writeMuxCfg c).par = s.par := rfl
@[simp] theorem writeMuxCfg_near (c : MuxCfg) (s : State) : (s.writeMuxCfg c).near = s.near := rfl
@[simp] theorem writeMuxCfg_far (c : MuxCfg) (s : State) : (s.writeMuxCfg c).far = s.far := rfl
@[simp] theorem writeMuxCfg_amb (c : MuxCfg) (s : State) : (s.writeMuxCfg c).amb = s.amb := rfl
@[simp] theorem writeMuxCfg_fanSig (c : MuxCfg) (s : State) : (s.writeMuxCfg c).fanSig = s.fanSig := rfl
@[simp] theorem writeMuxCfg_fanRef (c : MuxCfg) (s : State) : (s.writeMuxCfg c).fanRef = s.fanRef := rfl
@[simp] theorem writeMuxCfg_tick (c : MuxCfg) (s : State) : (s.writeMuxCfg c).tick = s.tick := rfl
@[simp] theorem writeMuxCfg_muxCfg (c : MuxCfg) (s : State) : (s.writeMuxCfg c).muxCfg = c := rfl
@[simp] theorem writeMuxCfg_emitNear (c : MuxCfg) (s : State) : (s.writeMuxCfg c).emitNear = s.emitNear := rfl
@[simp] theorem writeMuxCfg_emitFar (c : MuxCfg) (s : State) : (s.writeMuxCfg c).emitFar = s.emitFar := rfl
@[simp] theorem writeMuxCfg_running (c : MuxCfg) (s : State) : (s.writeMuxCfg c).running = s.running := rfl
@[simp] theorem writeMuxCfg_fanMode (c : MuxCfg) (s : State) : (s.writeMuxCfg c).fanMode = s.fanMode := rfl
@[simp] theorem writeMuxCfg_fanOn (c : MuxCfg) (s : State) : (s.writeMuxCfg c).fanOn = s.fanOn := rfl
@[simp] theorem writeMuxCfg_debounce (c : MuxCfg) (s : State) : (s.writeMuxCfg c).debounce = s.debounce := rfl
@[simp] theorem writeMuxCfg_lastFanCheck (c : MuxCfg) (s : State) : (s.writeMuxCfg c).lastFanCheck = s.lastFanCheck := rfl
@[simp] theorem writeMuxCfg_snapNear (c : MuxCfg) (s : State) : (s.writeMuxCfg c).snapNear = s.snapNear := rfl
@[simp] theorem writeMuxCfg_snapFar (c : MuxCfg) (s : State) : (s.writeMuxCfg c).snapFar = s.snapFar := rfl
@[simp] theorem writeMuxCfg_snapAmb (c : MuxCfg) (s : State) : (s.writeMuxCfg c).snapAmb = s.snapAmb := rfl
@[simp] theorem writeMuxCfg_snapTick (c : MuxCfg) (s : State) : (s.writeMuxCfg c).snapTick = s.snapTick := rfl
@[simp] theorem writeMuxCfg_snapSig (c : MuxCfg) (s : State) : (s.writeMuxCfg c).snapSig = s.snapSig := rfl
@[simp] theorem writeMuxCfg_snapRef (c : MuxCfg) (s : State) : (s.writeMuxCfg c).snapRef = s.snapRef := rfl
@[simp] theorem writeMuxCfg_lstep (c : MuxCfg) (s : State) : (s.writeMuxCfg c).lstep = s.lstep := rfl
@[simp] theorem writeMuxCfg_level (c : MuxCfg) (s : State) : (s.writeMuxCfg c).level = s.level := rfl
@[simp] theorem writeMuxCfg_outA (c : MuxCfg) (s : State) : (s.writeMuxCfg c).outA = s.outA := rfl
@[simp] theorem writeMuxCfg_outB (c : MuxCfg) (s : State) : (s.writeMuxCfg c).outB = s.outB := rfl
@[simp] theorem writeMuxCfg_adc (c : MuxCfg) (s : State) : (s.writeMuxCfg c).adc = s.adc := rfl
@[simp] theorem writeMuxCfg_modeSel (c : MuxCfg) (s : State) : (s.writeMuxCfg c).modeSel = s.modeSel := rfl
@[simp] theorem writeMuxCfg_fanStrapHs (c : MuxCfg) (s : State) : (s.writeMuxCfg c).fanStrapHs = s.fanStrapHs := rfl
@[simp] theorem writeMuxCfg_inputs (c : MuxCfg) (s : State) : (s.writeMuxCfg c).inputs = s.inputs := rfl
@[simp] theorem writeMuxCfg_envDraws (c : MuxCfg) (s : State) : (s.writeMuxCfg c).envDraws = s.envDraws := rfl
@[simp] theorem writeMuxCfg_orderDraws (c : MuxCfg) (s : State) : (s.writeMuxCfg c).orderDraws = s.orderDraws := rfl
@[simp] theorem writeMuxCfg_obs (c : MuxCfg) (s : State) : (s.writeMuxCfg c).obs = s.obs ++ [.muxCfg s.tick c] := rfl

/-! ### writeOutA -/

@[simp] theorem writeOutA_par (on : Bool) (s : State) : (s.writeOutA on).par = s.par := rfl
@[simp] theorem writeOutA_near (on : Bool) (s : State) : (s.writeOutA on).near = s.near := rfl
@[simp] theorem writeOutA_far (on : Bool) (s : State) : (s.writeOutA on).far = s.far := rfl
@[simp] theorem writeOutA_amb (on : Bool) (s : State) : (s.writeOutA on).amb = s.amb := rfl
@[simp] theorem writeOutA_fanSig (on : Bool) (s : State) : (s.writeOutA on).fanSig = s.fanSig := rfl
@[simp] theorem writeOutA_fanRef (on : Bool) (s : State) : (s.writeOutA on).fanRef = s.fanRef := rfl
@[simp] theorem writeOutA_tick (on : Bool) (s : State) : (s.writeOutA on).tick = s.tick := rfl
@[simp] theorem writeOutA_muxCfg (on : Bool) (s : State) : (s.writeOutA on).muxCfg = s.muxCfg := rfl
@[simp] theorem writeOutA_emitNear (on : Bool) (s : State) : (s.writeOutA on).emitNear = s.emitNear := rfl
@[simp] theorem writeOutA_emitFar (on : Bool) (s : State) : (s.writeOutA on).emitFar = s.emitFar := rfl
@[simp] theorem writeOutA_running (on : Bool) (s : State) : (s.writeOutA on).running = s.running := rfl
@[simp] theorem writeOutA_fanMode (on : Bool) (s : State) : (s.writeOutA on).fanMode = s.fanMode := rfl
@[simp] theorem writeOutA_fanOn (on : Bool) (s : State) : (s.writeOutA on).fanOn = s.fanOn := rfl
@[simp] theorem writeOutA_debounce (on : Bool) (s : State) : (s.writeOutA on).debounce = s.debounce := rfl
@[simp] theorem writeOutA_lastFanCheck (on : Bool) (s : State) : (s.writeOutA on).lastFanCheck = s.lastFanCheck := rfl
@[simp] theorem writeOutA_snapNear (on : Bool) (s : State) : (s.writeOutA on).snapNear = s.snapNear := rfl
@[simp] theorem writeOutA_snapFar (on : Bool) (s : State) : (s.writeOutA on).snapFar = s.snapFar := rfl
@[simp] theorem writeOutA_snapAmb (on : Bool) (s : State) : (s.writeOutA on).snapAmb = s.snapAmb := rfl
@[simp] theorem writeOutA_snapTick (on : Bool) (s : State) : (s.writeOutA on).snapTick = s.snapTick := rfl
@[simp] theorem writeOutA_snapSig (on : Bool) (s : State) : (s.writeOutA on).snapSig = s.snapSig := rfl
@[simp] theorem writeOutA_snapRef (on : Bool) (s : State) : (s.writeOutA on).snapRef = s.snapRef := rfl
@[simp] theorem writeOutA_lstep (on : Bool) (s : State) : (s.writeOutA on).lstep = s.lstep := rfl
@[simp] theorem writeOutA_level (on : Bool) (s : State) : (s.writeOutA on).level = s.level := rfl
@[simp] theorem writeOutA_outA (on : Bool) (s : State) : (s.writeOutA on).outA = on := rfl
@[simp] theorem writeOutA_outB (on : Bool) (s : State) : (s.writeOutA on).outB = s.outB := rfl
@[simp] theorem writeOutA_adc (on : Bool) (s : State) : (s.writeOutA on).adc = s.adc := rfl
@[simp] theorem writeOutA_modeSel (on : Bool) (s : State) : (s.writeOutA on).modeSel = s.modeSel := rfl
@[simp] theorem writeOutA_fanStrapHs (on : Bool) (s : State) : (s.writeOutA on).fanStrapHs = s.fanStrapHs := rfl
@[simp] theorem writeOutA_inputs (on : Bool) (s : State) : (s.writeOutA on).inputs = s.inputs := rfl
@[simp] theorem writeOutA_envDraws (on : Bool) (s : State) : (s.writeOutA on).envDraws = s.envDraws := rfl
@[simp] theorem writeOutA_orderDraws (on : Bool) (s : State) : (s.writeOutA on).orderDraws = s.orderDraws := rfl
@[simp] theorem writeOutA_obs (on : Bool) (s : State) : (s.writeOutA on).obs = s.obs ++ [.outA on] := rfl

/-! ### writeOutB -/

@[simp] theorem writeOutB_par (on : Bool) (s : State) : (s.writeOutB on).par = s.par := rfl
@[simp] theorem writeOutB_near (on : Bool) (s : State) : (s.writeOutB on).near = s.near := rfl
@[simp] theorem writeOutB_far (on : Bool) (s : State) : (s.writeOutB on).far = s.far := rfl
@[simp] theorem writeOutB_amb (on : Bool) (s : State) : (s.writeOutB on).amb = s.amb := rfl
@[simp] theorem writeOutB_fanSig (on : Bool) (s : State) : (s.writeOutB on).fanSig = s.fanSig := rfl
@[simp] theorem writeOutB_fanRef (on : Bool) (s : State) : (s.writeOutB on).fanRef = s.fanRef := rfl
@[simp] theorem writeOutB_tick (on : Bool) (s : State) : (s.writeOutB on).tick = s.tick := rfl
@[simp] theorem writeOutB_muxCfg (on : Bool) (s : State) : (s.writeOutB on).muxCfg = s.muxCfg := rfl
@[simp] theorem writeOutB_emitNear (on : Bool) (s : State) : (s.writeOutB on).emitNear = s.emitNear := rfl
@[simp] theorem writeOutB_emitFar (on : Bool) (s : State) : (s.writeOutB on).emitFar = s.emitFar := rfl
@[simp] theorem writeOutB_running (on : Bool) (s : State) : (s.writeOutB on).running = s.running := rfl
@[simp] theorem writeOutB_fanMode (on : Bool) (s : State) : (s.writeOutB on).fanMode = s.fanMode := rfl
@[simp] theorem writeOutB_fanOn (on : Bool) (s : State) : (s.writeOutB on).fanOn = s.fanOn := rfl
@[simp] theorem writeOutB_debounce (on : Bool) (s : State) : (s.writeOutB on).debounce = s.debounce := rfl
@[simp] theorem writeOutB_lastFanCheck (on : Bool) (s : State) : (s.writeOutB on).lastFanCheck = s.lastFanCheck := rfl
@[simp] theorem writeOutB_snapNear (on : Bool) (s : State) : (s.writeOutB on).snapNear = s.snapNear := rfl
@[simp] theorem writeOutB_snapFar (on : Bool) (s : State) : (s.writeOutB on).snapFar = s.snapFar := rfl
@[simp] theorem writeOutB_snapAmb (on : Bool) (s : State) : (s.writeOutB on).snapAmb = s.snapAmb := rfl
@[simp] theorem writeOutB_snapTick (on : Bool) (s : State) : (s.writeOutB on).snapTick = s.snapTick := rfl
@[simp] theorem writeOutB_snapSig (on : Bool) (s : State) : (s.writeOutB on).snapSig = s.snapSig := rfl
@[simp] theorem writeOutB_snapRef (on : Bool) (s : State) : (s.writeOutB on).snapRef = s.snapRef := rfl
@[simp] theorem writeOutB_lstep (on : Bool) (s : State) : (s.writeOutB on).lstep = s.lstep := rfl
@[simp] theorem writeOutB_level (on : Bool) (s : State) : (s.writeOutB on).level = s.level := rfl
@[simp] theorem writeOutB_outA (on : Bool) (s : State) : (s.writeOutB on).outA = s.outA := rfl
@[simp] theorem writeOutB_outB (on : Bool) (s : State) : (s.writeOutB on).outB = on := rfl
@[simp] theorem writeOutB_adc (on : Bool) (s : State) : (s.writeOutB on).adc = s.adc := rfl
@[simp] theorem writeOutB_modeSel (on : Bool) (s : State) : (s.writeOutB on).modeSel = s.modeSel := rfl
@[simp] theorem writeOutB_fanStrapHs (on : Bool) (s : State) : (s.writeOutB on).fanStrapHs = s.fanStrapHs := rfl
@[simp] theorem writeOutB_inputs (on : Bool) (s : State) : (s.writeOutB on).inputs = s.inputs := rfl
@[simp] theorem writeOutB_envDraws (on : Bool) (s : State) : (s.writeOutB on).envDraws = s.envDraws := rfl
@[simp] theorem writeOutB_orderDraws (on : Bool) (s : State) : (s.writeOutB on).orderDraws = s.orderDraws := rfl
@[simp] theorem writeOutB_obs (on : Bool) (s : State) : (s.writeOutB on).obs = s.obs ++ [.outB on] := rfl

/-! ### writeFanOn -/

@[simp] theorem writeFanOn_par (on : Bool) (s : State) : (s.writeFanOn on).par = s.par := rfl
@[simp] theorem writeFanOn_near (on : Bool) (s : State) : (s.writeFanOn on).near = s.near := rfl
@[simp] theorem writeFanOn_far (on : Bool) (s : State) : (s.writeFanOn on).far = s.far := rfl
@[simp] theorem writeFanOn_amb (on : Bool) (s : State) : (s.writeFanOn on).amb = s.amb := rfl
@[simp] theorem writeFanOn_fanSig (on : Bool) (s : State) : (s.writeFanOn on).fanSig = s.fanSig := rfl
@[simp] theorem writeFanOn_fanRef (on : Bool) (s : State) : (s.writeFanOn on).fanRef = s.fanRef := rfl
@[simp] theorem writeFanOn_tick (on : Bool) (s : State) : (s.writeFanOn on).tick = s.tick := rfl
@[simp] theorem writeFanOn_muxCfg (on : Bool) (s : State) : (s.writeFanOn on).muxCfg = s.muxCfg := rfl
@[simp] theorem writeFanOn_emitNear (on : Bool) (s : State) : (s.writeFanOn on).emitNear = s.emitNear := rfl
@[simp] theorem writeFanOn_emitFar (on : Bool) (s : State) : (s.writeFanOn on).emitFar = s.emitFar := rfl
@[simp] theorem writeFanOn_running (on : Bool) (s : State) : (s.writeFanOn on).running = s.running := rfl
@[simp] theorem writeFanOn_fanMode (on : Bool) (s : State) : (s.writeFanOn on).fanMode = s.fanMode := rfl
@[simp] theorem writeFanOn_fanOn (on : Bool) (s : State) : (s.writeFanOn on).fanOn = on := rfl
@[simp] theorem writeFanOn_debounce (on : Bool) (s : State) : (s.writeFanOn on).debounce = s.debounce := rfl
@[simp] theorem writeFanOn_lastFanCheck (on : Bool) (s : State) : (s.writeFanOn on).lastFanCheck = s.lastFanCheck := rfl
@[simp] theorem writeFanOn_snapNear (on : Bool) (s : State) : (s.writeFanOn on).snapNear = s.snapNear := rfl
@[simp] theorem writeFanOn_snapFar (on : Bool) (s : State) : (s.writeFanOn on).snapFar = s.snapFar := rfl
@[simp] theorem writeFanOn_snapAmb (on : Bool) (s : State) : (s.writeFanOn on).snapAmb = s.snapAmb := rfl
@[simp] theorem writeFanOn_snapTick (on : Bool) (s : State) : (s.writeFanOn on).snapTick = s.snapTick := rfl
@[simp] theorem writeFanOn_snapSig (on : Bool) (s : State) : (s.writeFanOn on).snapSig = s.snapSig := rfl
@[simp] theorem writeFanOn_snapRef (on : Bool) (s : State) : (s.writeFanOn on).snapRef = s.snapRef := rfl
@[simp] theorem writeFanOn_lstep (on : Bool) (s : State) : (s.writeFanOn on).lstep = s.lstep := rfl
@[simp] theorem writeFanOn_level (on : Bool) (s : State) : (s.writeFanOn on).level = s.level := rfl
@[simp] theorem writeFanOn_outA (on : Bool) (s : State) : (s.writeFanOn on).outA = s.outA := rfl
@[simp] theorem writeFanOn_outB (on : Bool) (s : State) : (s.writeFanOn on).outB = s.outB := rfl
@[simp] theorem writeFanOn_adc (on : Bool) (s : State) : (s.writeFanOn on).adc = s.adc := rfl
@[simp] theorem writeFanOn_modeSel (on : Bool) (s : State) : (s.writeFanOn on).modeSel = s.modeSel := rfl
@[simp] theorem writeFanOn_fanStrapHs (on : Bool) (s : State) : (s.writeFanOn on).fanStrapHs = s.fanStrapHs := rfl
@[simp] theorem writeFanOn_inputs (on : Bool) (s : State) : (s.writeFanOn on).inputs = s.inputs := rfl
@[simp] theorem writeFanOn_envDraws (on : Bool) (s : State) : (s.writeFanOn on).envDraws = s.envDraws := rfl
@[simp] theorem writeFanOn_orderDraws (on : Bool) (s : State) : (s.writeFanOn on).orderDraws = s.orderDraws := rfl
@[simp] theorem writeFanOn_obs (on : Bool) (s : State) : (s.writeFanOn on).obs = s.obs ++ [.fanOn on] := rfl

/-! ### kickWatchdog -/

@[simp] theorem kickWatchdog_par (s : State) : (s.kickWatchdog).par = s.par := rfl
@[simp] theorem kickWatchdog_near (s : State) : (s.kickWatchdog).near = s.near := rfl
@[simp] theorem kickWatchdog_far (s : State) : (s.kickWatchdog).far = s.far := rfl
@[simp] theorem kickWatchdog_amb (s : State) : (s.kickWatchdog).amb = s.amb := rfl
@[simp] theorem kickWatchdog_fanSig (s : State) : (s.kickWatchdog).fanSig = s.fanSig := rfl
@[simp] theorem kickWatchdog_fanRef (s : State) : (s.kickWatchdog).fanRef = s.fanRef := rfl
@[simp] theorem kickWatchdog_tick (s : State) : (s.kickWatchdog).tick = s.tick := rfl
@[simp] theorem kickWatchdog_muxCfg (s : State) : (s.kickWatchdog).muxCfg = s.muxCfg := rfl
@[simp] theorem kickWatchdog_emitNear (s : State) : (s.kickWatchdog).emitNear = s.emitNear := rfl
@[simp] theorem kickWatchdog_emitFar (s : State) : (s.kickWatchdog).emitFar = s.emitFar := rfl
@[simp] theorem kickWatchdog_running (s : State) : (s.kickWatchdog).running = s.running := rfl
@[simp] theorem kickWatchdog_fanMode (s : State) : (s.kickWatchdog).fanMode = s.fanMode := rfl
@[simp] theorem kickWatchdog_fanOn (s : State) : (s.kickWatchdog).fanOn = s.fanOn := rfl
@[simp] theorem kickWatchdog_debounce (s : State) : (s.kickWatchdog).debounce = s.debounce := rfl
@[simp] theorem kickWatchdog_lastFanCheck (s : State) : (s.kickWatchdog).lastFanCheck = s.lastFanCheck := rfl
@[simp] theorem kickWatchdog_snapNear (s : State) : (s.kickWatchdog).snapNear = s.snapNear := rfl
@[simp] theorem kickWatchdog_snapFar (s : State) : (s.kickWatchdog).snapFar = s.snapFar := rfl
@[simp] theorem kickWatchdog_snapAmb (s : State) : (s.kickWatchdog).snapAmb = s.snapAmb := rfl
@[simp] theorem kickWatchdog_snapTick (s : State) : (s.kickWatchdog).snapTick = s.snapTick := rfl
@[simp] theorem kickWatchdog_snapSig (s : State) : (s.kickWatchdog).snapSig = s.snapSig := rfl
@[simp] theorem kickWatchdog_snapRef (s : State) : (s.kickWatchdog).snapRef = s.snapRef := rfl
@[simp] theorem kickWatchdog_lstep (s : State) : (s.kickWatchdog).lstep = s.lstep := rfl
@[simp] theorem kickWatchdog_level (s : State) : (s.kickWatchdog).level = s.level := rfl
@[simp] theorem kickWatchdog_outA (s : State) : (s.kickWatchdog).outA = s.outA := rfl
@[simp] theorem kickWatchdog_outB (s : State) : (s.kickWatchdog).outB = s.outB := rfl
@[simp] theorem kickWatchdog_adc (s : State) : (s.kickWatchdog).adc = s.adc := rfl
@[simp] theorem kickWatchdog_modeSel (s : State) : (s.kickWatchdog).modeSel = s.modeSel := rfl
@[simp] theorem kickWatchdog_fanStrapHs (s : State) : (s.kickWatchdog).fanStrapHs = s.fanStrapHs := rfl
@[simp] theorem kickWatchdog_inputs (s : State) : (s.kickWatchdog).inputs = s.inputs := rfl
@[simp] theorem kickWatchdog_envDraws (s : State) : (s.kickWatchdog).envDraws = s.envDraws := rfl
@[simp] theorem kickWatchdog_orderDraws (s : State) : (s.kickWatchdog).orderDraws = s.orderDraws := rfl
@[simp] theorem kickWatchdog_obs (s : State) : (s.kickWatchdog).obs = s.obs ++ [.wdtKick] := rfl

/-! ### withAdc -/

@[simp] theorem withAdc_par (v : Reading) (s : State) : (s.withAdc v).par = s.par := rfl
@[simp] theorem withAdc_near (v : Reading) (s : State) : (s.withAdc v).near = s.near := rfl
@[simp] theorem withAdc_far (v : Reading) (s : State) : (s.withAdc v).far = s.far := rfl
@[simp] theorem withAdc_amb (v : Reading) (s : State) : (s.withAdc v).amb = s.amb := rfl
@[simp] theorem withAdc_fanSig (v : Reading) (s : State) : (s.withAdc v).fanSig = s.fanSig := rfl
@[simp] theorem withAdc_fanRef (v : Reading) (s : State) : (s.withAdc v).fanRef = s.fanRef := rfl
@[simp] theorem withAdc_tick (v : Reading) (s : State) : (s.withAdc v).tick = s.tick := rfl
@[simp] theorem withAdc_muxCfg (v : Reading) (s : State) : (s.withAdc v).muxCfg = s.muxCfg := rfl
@[simp] theorem withAdc_emitNear (v : Reading) (s : State) : (s.withAdc v).emitNear = s.emitNear := rfl
@[simp] theorem withAdc_emitFar (v : Reading) (s : State) : (s.withAdc v).emitFar = s.emitFar := rfl
@[simp] theorem withAdc_running (v : Reading) (s : State) : (s.withAdc v).running = s.running := rfl
@[simp] theorem withAdc_fanMode (v : Reading) (s : State) : (s.withAdc v).fanMode = s.fanMode := rfl
@[simp] theorem withAdc_fanOn (v : Reading) (s : State) : (s.withAdc v).fanOn = s.fanOn := rfl
@[simp] theorem withAdc_debounce (v : Reading) (s : State) : (s.withAdc v).debounce = s.debounce := rfl
@[simp] theorem withAdc_lastFanCheck (v : Reading) (s : State) : (s.withAdc v).lastFanCheck = s.lastFanCheck := rfl
@[simp] theorem withAdc_snapNear (v : Reading) (s : State) : (s.withAdc v).snapNear = s.snapNear := rfl
@[simp] theorem withAdc_snapFar (v : Reading) (s : State) : (s.withAdc v).snapFar = s.snapFar := rfl
@[simp] theorem withAdc_snapAmb (v : Reading) (s : State) : (s.withAdc v).snapAmb = s.snapAmb := rfl
@[simp] theorem withAdc_snapTick (v : Reading) (s : State) : (s.withAdc v).snapTick = s.snapTick := rfl
@[simp] theorem withAdc_snapSig (v : Reading) (s : State) : (s.withAdc v).snapSig = s.snapSig := rfl
@[simp] theorem withAdc_snapRef (v : Reading) (s : State) : (s.withAdc v).snapRef = s.snapRef := rfl
@[simp] theorem withAdc_lstep (v : Reading) (s : State) : (s.withAdc v).lstep = s.lstep := rfl
@[simp] theorem withAdc_level (v : Reading) (s : State) : (s.withAdc v).level = s.level := rfl
@[simp] theorem withAdc_outA (v : Reading) (s : State) : (s.withAdc v).outA = s.outA := rfl
@[simp] theorem withAdc_outB (v : Reading) (s : State) : (s.withAdc v).outB = s.outB := rfl
@[simp] theorem withAdc_adc (v : Reading) (s : State) : (s.withAdc v).adc = v := rfl
@[simp] theorem withAdc_modeSel (v : Reading) (s : State) : (s.withAdc v).modeSel = s.modeSel := rfl
@[simp] theorem withAdc_fanStrapHs (v : Reading) (s : State) : (s.withAdc v).fanStrapHs = s.fanStrapHs := rfl
@[simp] theorem withAdc_inputs (v : Reading) (s : State) : (s.withAdc v).inputs = s.inputs := rfl
@[simp] theorem withAdc_envDraws (v : Reading) (s : State) : (s.withAdc v).envDraws = s.envDraws := rfl
@[simp] theorem withAdc_orderDraws (v : Reading) (s : State) : (s.withAdc v).orderDraws = s.orderDraws := rfl
@[simp] theorem withAdc_obs (v : Reading) (s : State) : (s.withAdc v).obs = s.obs := rfl

/-! ### withModeSel -/

@[simp] theorem withModeSel_par (m : Bool) (s : State) : (s.withModeSel m).par = s.par := rfl
@[simp] theorem withModeSel_near (m : Bool) (s : State) : (s.withModeSel m).near = s.near := rfl
@[simp] theorem withModeSel_far (m : Bool) (s : State) : (s.withModeSel m).far = s.far := rfl
@[simp] theorem withModeSel_amb (m : Bool) (s : State) : (s.withModeSel m).amb = s.amb := rfl
@[simp] theorem withModeSel_fanSig (m : Bool) (s : State) : (s.withModeSel m).fanSig = s.fanSig := rfl
@[simp] theorem withModeSel_fanRef (m : Bool) (s : State) : (s.withModeSel m).fanRef = s.fanRef := rfl
@[simp] theorem withModeSel_tick (m : Bool) (s : State) : (s.withModeSel m).tick = s.tick := rfl
@[simp] theorem withModeSel_muxCfg (m : Bool) (s : State) : (s.withModeSel m).muxCfg = s.muxCfg := rfl
@[simp] theorem withModeSel_emitNear (m : Bool) (s : State) : (s.withModeSel m).emitNear = s.emitNear := rfl
@[simp] theorem withModeSel_emitFar (m : Bool) (s : State) : (s.withModeSel m).emitFar = s.emitFar := rfl
@[simp] theorem withModeSel_running (m : Bool) (s : State) : (s.withModeSel m).running = s.running := rfl
@[simp] theorem withModeSel_fanMode (m : Bool) (s : State) : (s.withModeSel m).fanMode = s.fanMode := rfl
@[simp] theorem withModeSel_fanOn (m : Bool) (s : State) : (s.withModeSel m).fanOn = s.fanOn := rfl
@[simp] theorem withModeSel_debounce (m : Bool) (s : State) : (s.withModeSel m).debounce = s.debounce := rfl
@[simp] theorem withModeSel_lastFanCheck (m : Bool) (s : State) : (s.withModeSel m).lastFanCheck = s.lastFanCheck := rfl
@[simp] theorem withModeSel_snapNear (m : Bool) (s : State) : (s.withModeSel m).snapNear = s.snapNear := rfl
@[simp] theorem withModeSel_snapFar (m : Bool) (s : State) : (s.withModeSel m).snapFar = s.snapFar := rfl
@[simp] theorem withModeSel_snapAmb (m : Bool) (s : State) : (s.withModeSel m).snapAmb = s.snapAmb := rfl
@[simp] theorem withModeSel_snapTick (m : Bool) (s : State) : (s.withModeSel m).snapTick = s.snapTick := rfl
@[simp] theorem withModeSel_snapSig (m : Bool) (s : State) : (s.withModeSel m).snapSig = s.snapSig := rfl
@[simp] theorem withModeSel_snapRef (m : Bool) (s : State) : (s.withModeSel m).snapRef = s.snapRef := rfl
@[simp] theorem withModeSel_lstep (m : Bool) (s : State) : (s.withModeSel m).lstep = s.lstep := rfl
@[simp] theorem withModeSel_level (m : Bool) (s : State) : (s.withModeSel m).level = s.level := rfl
@[simp] theorem withModeSel_outA (m : Bool) (s : State) : (s.withModeSel m).outA = s.outA := rfl
@[simp] theorem withModeSel_outB (m : Bool) (s : State) : (s.withModeSel m).outB = s.outB := rfl
@[simp] theorem withModeSel_adc (m : Bool) (s : State) : (s.withModeSel m).adc = s.adc := rfl
@[simp] theorem withModeSel_modeSel (m : Bool) (s : State) : (s.withModeSel m).modeSel = m := rfl
@[simp] theorem withModeSel_fanStrapHs (m : Bool) (s : State) : (s.withModeSel m).fanStrapHs = s.fanStrapHs := rfl
@[simp] theorem withModeSel_inputs (m : Bool) (s : State) : (s.withModeSel m).inputs = s.inputs := rfl
@[simp] theorem withModeSel_envDraws (m : Bool) (s : State) : (s.withModeSel m).envDraws = s.envDraws := rfl
@[simp] theorem withModeSel_orderDraws (m : Bool) (s : State) : (s.withModeSel m).orderDraws = s.orderDraws := rfl
@[simp] theorem withModeSel_obs (m : Bool) (s : State) : (s.withModeSel m).obs = s.obs := rfl

/-! ### withStrap -/

@[simp] theorem withStrap_par (hs : Bool) (s : State) : (s.withStrap hs).par = s.par := rfl
@[simp] theorem withStrap_near (hs : Bool) (s : State) : (s.withStrap hs).near = s.near := rfl
@[simp] theorem withStrap_far (hs : Bool) (s : State) : (s.withStrap hs).far = s.far := rfl
@[simp] theorem withStrap_amb (hs : Bool) (s : State) : (s.withStrap hs).amb = s.amb := rfl
@[simp] theorem withStrap_fanSig (hs : Bool) (s : State) : (s.withStrap hs).fanSig = s.fanSig := rfl
@[simp] theorem withStrap_fanRef (hs : Bool) (s : State) : (s.withStrap hs).fanRef = s.fanRef := rfl
@[simp] theorem withStrap_tick (hs : Bool) (s : State) : (s.withStrap hs).tick = s.tick := rfl
@[simp] theorem withStrap_muxCfg (hs : Bool) (s : State) : (s.withStrap hs).muxCfg = s.muxCfg := rfl
@[simp] theorem withStrap_emitNear (hs : Bool) (s : State) : (s.withStrap hs).emitNear = s.emitNear := rfl
@[simp] theorem withStrap_emitFar (hs : Bool) (s : State) : (s.withStrap hs).emitFar = s.emitFar := rfl
@[simp] theorem withStrap_running (hs : Bool) (s : State) : (s.withStrap hs).running = s.running := rfl
@[simp] theorem withStrap_fanMode (hs : Bool) (s : State) : (s.withStrap hs).fanMode = s.fanMode := rfl
@[simp] theorem withStrap_fanOn (hs : Bool) (s : State) : (s.withStrap hs).fanOn = s.fanOn := rfl
@[simp] theorem withStrap_debounce (hs : Bool) (s : State) : (s.withStrap hs).debounce = s.debounce := rfl
@[simp] theorem withStrap_lastFanCheck (hs : Bool) (s : State) : (s.withStrap hs).lastFanCheck = s.lastFanCheck := rfl
@[simp] theorem withStrap_snapNear (hs : Bool) (s : State) : (s.withStrap hs).snapNear = s.snapNear := rfl
@[simp] theorem withStrap_snapFar (hs : Bool) (s : State) : (s.withStrap hs).snapFar = s.snapFar := rfl
@[simp] theorem withStrap_snapAmb (hs : Bool) (s : State) : (s.withStrap hs).snapAmb = s.snapAmb := rfl
@[simp] theorem withStrap_snapTick (hs : Bool) (s : State) : (s.withStrap hs).snapTick = s.snapTick := rfl
@[simp] theorem withStrap_snapSig (hs : Bool) (s : State) : (s.withStrap hs).snapSig = s.snapSig := rfl
@[simp] theorem withStrap_snapRef (hs : Bool) (s : State) : (s.withStrap hs).snapRef = s.snapRef := rfl
@[simp] theorem withStrap_lstep (hs : Bool) (s : State) : (s.withStrap hs).lstep = s.lstep := rfl
@[simp] theorem withStrap_level (hs : Bool) (s : State) : (s.withStrap hs).level = s.level := rfl
@[simp] theorem withStrap_outA (hs : Bool) (s : State) : (s.withStrap hs).outA = s.outA := rfl
@[simp] theorem withStrap_outB (hs : Bool) (s : State) : (s.withStrap hs).outB = s.outB := rfl
@[simp] theorem withStrap_adc (hs : Bool) (s : State) : (s.withStrap hs).adc = s.adc := rfl
@[simp] theorem withStrap_modeSel (hs : Bool) (s : State) : (s.withStrap hs).modeSel = s.modeSel := rfl
@[simp] theorem withStrap_fanStrapHs (hs : Bool) (s : State) : (s.withStrap hs).fanStrapHs = hs := rfl
@[simp] theorem withStrap_inputs (hs : Bool) (s : State) : (s.withStrap hs).inputs = s.inputs := rfl
@[simp] theorem withStrap_envDraws (hs : Bool) (s : State) : (s.withStrap hs).envDraws = s.envDraws := rfl
@[simp] theorem withStrap_orderDraws (hs : Bool) (s : State) : (s.withStrap hs).orderDraws = s.orderDraws := rfl
@[simp] theorem withStrap_obs (hs : Bool) (s : State) : (s.withStrap hs).obs = s.obs := rfl

/-! ### advanceTick -/

@[simp] theorem advanceTick_par (s : State) : (s.advanceTick).par = s.par := rfl
@[simp] theorem advanceTick_near (s : State) : (s.advanceTick).near = s.near := rfl
@[simp] theorem advanceTick_far (s : State) : (s.advanceTick).far = s.far := rfl
@[simp] theorem advanceTick_amb (s : State) : (s.advanceTick).amb = s.amb := rfl
@[simp] theorem advanceTick_fanSig (s : State) : (s.advanceTick).fanSig = s.fanSig := rfl
@[simp] theorem advanceTick_fanRef (s : State) : (s.advanceTick).fanRef = s.fanRef := rfl
@[simp] theorem advanceTick_tick (s : State) : (s.advanceTick).tick = (s.tick + 1) % s.par.tickRange := rfl
@[simp] theorem advanceTick_muxCfg (s : State) : (s.advanceTick).muxCfg = s.muxCfg := rfl
@[simp] theorem advanceTick_emitNear (s : State) : (s.advanceTick).emitNear = s.emitNear := rfl
@[simp] theorem advanceTick_emitFar (s : State) : (s.advanceTick).emitFar = s.emitFar := rfl
@[simp] theorem advanceTick_running (s : State) : (s.advanceTick).running = s.running := rfl
@[simp] theorem advanceTick_fanMode (s : State) : (s.advanceTick).fanMode = s.fanMode := rfl
@[simp] theorem advanceTick_fanOn (s : State) : (s.advanceTick).fanOn = s.fanOn := rfl
@[simp] theorem advanceTick_debounce (s : State) : (s.advanceTick).debounce = s.debounce := rfl
@[simp] theorem advanceTick_lastFanCheck (s : State) : (s.advanceTick).lastFanCheck = s.lastFanCheck := rfl
@[simp] theorem advanceTick_snapNear (s : State) : (s.advanceTick).snapNear = s.snapNear := rfl
@[simp] theorem advanceTick_snapFar (s : State) : (s.advanceTick).snapFar = s.snapFar := rfl
@[simp] theorem advanceTick_snapAmb (s : State) : (s.advanceTick).snapAmb = s.snapAmb := rfl
@[simp] theorem advanceTick_snapTick (s : State) : (s.advanceTick).snapTick = s.snapTick := rfl
@[simp] theorem advanceTick_snapSig (s : State) : (s.advanceTick).snapSig = s.snapSig := rfl
@[simp] theorem advanceTick_snapRef (s : State) : (s.advanceTick).snapRef = s.snapRef := rfl
@[simp] theorem advanceTick_lstep (s : State) : (s.advanceTick).lstep = s.lstep := rfl
@[simp] theorem advanceTick_level (s : State) : (s.advanceTick).level = s.level := rfl
@[simp] theorem advanceTick_outA (s : State) : (s.advanceTick).outA = s.outA := rfl
@[simp] theorem advanceTick_outB (s : State) : (s.advanceTick).outB = s.outB := rfl
@[simp] theorem advanceTick_adc (s : State) : (s.advanceTick).adc = s.adc := rfl
@[simp] theorem advanceTick_modeSel (s : State) : (s.advanceTick).modeSel = s.modeSel := rfl
@[simp] theorem advanceTick_fanStrapHs (s : State) : (s.advanceTick).fanStrapHs = s.fanStrapHs := rfl
@[simp] theorem advanceTick_inputs (s : State) : (s.advanceTick).inputs = s.inputs := rfl
@[simp] theorem advanceTick_envDraws (s : State) : (s.advanceTick).envDraws = s.envDraws := rfl
@[simp] theorem advanceTick_orderDraws (s : State) : (s.advanceTick).orderDraws = s.orderDraws := rfl
@[simp] theorem advanceTick_obs (s : State) : (s.advanceTick).obs = s.obs := rfl

/-! ### gotoStep -/

@[simp] theorem gotoStep_par (l : LStep) (s : State) : (s.gotoStep l).par = s.par := rfl
@[simp] theorem gotoStep_near (l : LStep) (s : State) : (s.gotoStep l).near = s.near := rfl
@[simp] theorem gotoStep_far (l : LStep) (s : State) : (s.gotoStep l).far = s.far := rfl
@[simp] theorem gotoStep_amb (l : LStep) (s : State) : (s.gotoStep l).amb = s.amb := rfl
@[simp] theorem gotoStep_fanSig (l : LStep) (s : State) : (s.gotoStep l).fanSig = s.fanSig := rfl
@[simp] theorem gotoStep_fanRef (l : LStep) (s : State) : (s.gotoStep l).fanRef = s.fanRef := rfl
@[simp] theorem gotoStep_tick (l : LStep) (s : State) : (s.gotoStep l).tick = s.tick := rfl
@[simp] theorem gotoStep_muxCfg (l : LStep) (s : State) : (s.gotoStep l).muxCfg = s.muxCfg := rfl
@[simp] theorem gotoStep_emitNear (l : LStep) (s : State) : (s.gotoStep l).emitNear = s.emitNear := rfl
@[simp] theorem gotoStep_emitFar (l : LStep) (s : State) : (s.gotoStep l).emitFar = s.emitFar := rfl
@[simp] theorem gotoStep_running (l : LStep) (s : State) : (s.gotoStep l).running = s.running := rfl
@[simp] theorem gotoStep_fanMode (l : LStep) (s : State) : (s.gotoStep l).fanMode = s.fanMode := rfl
@[simp] theorem gotoStep_fanOn (l : LStep) (s : State) : (s.gotoStep l).fanOn = s.fanOn := rfl
@[simp] theorem gotoStep_debounce (l : LStep) (s : State) : (s.gotoStep l).debounce = s.debounce := rfl
@[simp] theorem gotoStep_lastFanCheck (l : LStep) (s : State) : (s.gotoStep l).lastFanCheck = s.lastFanCheck := rfl
@[simp] theorem gotoStep_snapNear (l : LStep) (s : State) : (s.gotoStep l).snapNear = s.snapNear := rfl
@[simp] theorem gotoStep_snapFar (l : LStep) (s : State) : (s.gotoStep l).snapFar = s.snapFar := rfl
@[simp] theorem gotoStep_snapAmb (l : LStep) (s : State) : (s.gotoStep l).snapAmb = s.snapAmb := rfl
@[simp] theorem gotoStep_snapTick (l : LStep) (s : State) : (s.gotoStep l).snapTick = s.snapTick := rfl
@[simp] theorem gotoStep_snapSig (l : LStep) (s : State) : (s.gotoStep l).snapSig = s.snapSig := rfl
@[simp] theorem gotoStep_snapRef (l : LStep) (s : State) : (s.gotoStep l).snapRef = s.snapRef := rfl
@[simp] theorem gotoStep_lstep (l : LStep) (s : State) : (s.gotoStep l).lstep = l := rfl
@[simp] theorem gotoStep_level (l : LStep) (s : State) : (s.gotoStep l).level = s.level := rfl
@[simp] theorem gotoStep_outA (l : LStep) (s : State) : (s.gotoStep l).outA = s.outA := rfl
@[simp] theorem gotoStep_outB (l : LStep) (s : State) : (s.gotoStep l).outB = s.outB := rfl
@[simp] theorem gotoStep_adc (l : LStep) (s : State) : (s.gotoStep l).adc = s.adc := rfl
@[simp] theorem gotoStep_modeSel (l : LStep) (s : State) : (s.gotoStep l).modeSel = s.modeSel := rfl
@[simp] theorem gotoStep_fanStrapHs (l : LStep) (s : State) : (s.gotoStep l).fanStrapHs = s.fanStrapHs := rfl
@[simp] theorem gotoStep_inputs (l : LStep) (s : State) : (s.gotoStep l).inputs = s.inputs := rfl
@[simp] theorem gotoStep_envDraws (l : LStep) (s : State) : (s.gotoStep l).envDraws = s.envDraws := rfl
@[simp] theorem gotoStep_orderDraws (l : LStep) (s : State) : (s.gotoStep l).orderDraws = s.orderDraws := rfl
@[simp] theorem gotoStep_obs (l : LStep) (s : State) : (s.gotoStep l).obs = s.obs := rfl

/-! ### nextOrder -/

@[simp] theorem nextOrder_par (s : State) : (s.nextOrder).par = s.par := rfl
@[simp] theorem nextOrder_near (s : State) : (s.nextOrder).near = s.near := rfl
@[simp] theorem nextOrder_far (s : State) : (s.nextOrder).far = s.far := rfl
@[simp] theorem nextOrder_amb (s : State) : (s.nextOrder).amb = s.amb := rfl
@[simp] theorem nextOrder_fanSig (s : State) : (s.nextOrder).fanSig = s.fanSig := rfl
@[simp] theorem nextOrder_fanRef (s : State) : (s.nextOrder).fanRef = s.fanRef := rfl
@[simp] theorem nextOrder_tick (s : State) : (s.nextOrder).tick = s.tick := rfl
@[simp] theorem nextOrder_muxCfg (s : State) : (s.nextOrder).muxCfg = s.muxCfg := rfl
@[simp] theorem nextOrder_emitNear (s : State) : (s.nextOrder).emitNear = s.emitNear := rfl
@[simp] theorem nextOrder_emitFar (s : State) : (s.nextOrder).emitFar = s.emitFar := rfl
@[simp] theorem nextOrder_running (s : State) : (s.nextOrder).running = s.running := rfl
@[simp] theorem nextOrder_fanMode (s : State) : (s.nextOrder).fanMode = s.fanMode := rfl
@[simp] theorem nextOrder_fanOn (s : State) : (s.nextOrder).fanOn = s.fanOn := rfl
@[simp] theorem nextOrder_debounce (s : State) : (s.nextOrder).debounce = s.debounce := rfl
@[simp] theorem nextOrder_lastFanCheck (s : State) : (s.nextOrder).lastFanCheck = s.lastFanCheck := rfl
@[simp] theorem nextOrder_snapNear (s : State) : (s.nextOrder).snapNear = s.snapNear := rfl
@[simp] theorem nextOrder_snapFar (s : State) : (s.nextOrder).snapFar = s.snapFar := rfl
@[simp] theorem nextOrder_snapAmb (s : State) : (s.nextOrder).snapAmb = s.snapAmb := rfl
@[simp] theorem nextOrder_snapTick (s : State) : (s.nextOrder).snapTick = s.snapTick := rfl
@[simp] theorem nextOrder_snapSig (s : State) : (s.nextOrder).snapSig = s.snapSig := rfl
@[simp] theorem nextOrder_snapRef (s : State) : (s.nextOrder).snapRef = s.snapRef := rfl
@[simp] theorem nextOrder_lstep (s : State) : (s.nextOrder).lstep = s.lstep := rfl
@[simp] theorem nextOrder_level (s : State) : (s.nextOrder).level = s.level := rfl
@[simp] theorem nextOrder_outA (s : State) : (s.nextOrder).outA = s.outA := rfl
@[simp] theorem nextOrder_outB (s : State) : (s.nextOrder).outB = s.outB := rfl
@[simp] theorem nextOrder_adc (s : State) : (s.nextOrder).adc = s.adc := rfl
@[simp] theorem nextOrder_modeSel (s : State) : (s.nextOrder).modeSel = s.modeSel := rfl
@[simp] theorem nextOrder_fanStrapHs (s : State) : (s.nextOrder).fanStrapHs = s.fanStrapHs := rfl
@[simp] theorem nextOrder_inputs (s : State) : (s.nextOrder).inputs = s.inputs := rfl
@[simp] theorem nextOrder_envDraws (s : State) : (s.nextOrder).envDraws = s.envDraws := rfl
@[simp] theorem nextOrder_orderDraws (s : State) : (s.nextOrder).orderDraws = s.orderDraws + 1 := rfl
@[simp] theorem nextOrder_obs (s : State) : (s.nextOrder).obs = s.obs := rfl

/-! ### pushEvent -/

@[simp] theorem pushEvent_par (w : EventWord) (s : State) : (s.pushEvent w).par = s.par := rfl
@[simp] theorem pushEvent_near (w : EventWord) (s : State) : (s.pushEvent w).near = s.near := rfl
@[simp] theorem pushEvent_far (w : EventWord) (s : State) : (s.pushEvent w).far = s.far := rfl
@[simp] theorem pushEvent_amb (w : EventWord) (s : State) : (s.pushEvent w).amb = s.amb := rfl
@[simp] theorem pushEvent_fanSig (w : EventWord) (s : State) : (s.pushEvent w).fanSig = s.fanSig := rfl
@[simp] theorem pushEvent_fanRef (w : EventWord) (s : State) : (s.pushEvent w).fanRef = s.fanRef := rfl
@[simp] theorem pushEvent_tick (w : EventWord) (s : State) : (s.pushEvent w).tick = s.tick := rfl
@[simp] theorem pushEvent_muxCfg (w : EventWord) (s : State) : (s.pushEvent w).muxCfg = s.muxCfg := rfl
@[simp] theorem pushEvent_emitNear (w : EventWord) (s : State) : (s.pushEvent w).emitNear = s.emitNear := rfl
@[simp] theorem pushEvent_emitFar (w : EventWord) (s : State) : (s.pushEvent w).emitFar = s.emitFar := rfl
@[simp] theorem pushEvent_running (w : EventWord) (s : State) : (s.pushEvent w).running = s.running := rfl
@[simp] theorem pushEvent_fanMode (w : EventWord) (s : State) : (s.pushEvent w).fanMode = s.fanMode := rfl
@[simp] theorem pushEvent_fanOn (w : EventWord) (s : State) : (s.pushEvent w).fanOn = s.fanOn := rfl
@[simp] theorem pushEvent_debounce (w : EventWord) (s : State) : (s.pushEvent w).debounce = s.debounce := rfl
@[simp] theorem pushEvent_lastFanCheck (w : EventWord) (s : State) : (s.pushEvent w).lastFanCheck = s.lastFanCheck := rfl
@[simp] theorem pushEvent_snapNear (w : EventWord) (s : State) : (s.pushEvent w).snapNear = s.snapNear := rfl
@[simp] theorem pushEvent_snapFar (w : EventWord) (s : State) : (s.pushEvent w).snapFar = s.snapFar := rfl
@[simp] theorem pushEvent_snapAmb (w : EventWord) (s : State) : (s.pushEvent w).snapAmb = s.snapAmb := rfl
@[simp] theorem pushEvent_snapTick (w : EventWord) (s : State) : (s.pushEvent w).snapTick = s.snapTick := rfl
@[simp] theorem pushEvent_snapSig (w : EventWord) (s : State) : (s.pushEvent w).snapSig = s.snapSig := rfl
@[simp] theorem pushEvent_snapRef (w : EventWord) (s : State) : (s.pushEvent w).snapRef = s.snapRef := rfl
@[simp] theorem pushEvent_lstep (w : EventWord) (s : State) : (s.pushEvent w).lstep = s.lstep := rfl
@[simp] theorem pushEvent_level (w : EventWord) (s : State) : (s.pushEvent w).level = s.level := rfl
@[simp] theorem pushEvent_outA (w : EventWord) (s : State) : (s.pushEvent w).outA = s.outA := rfl
@[simp] theorem pushEvent_outB (w : EventWord) (s : State) : (s.pushEvent w).outB = s.outB := rfl
@[simp] theorem pushEvent_adc (w : EventWord) (s : State) : (s.pushEvent w).adc = s.adc := rfl
@[simp] theorem pushEvent_modeSel (w : EventWord) (s : State) : (s.pushEvent w).modeSel = s.modeSel := rfl
@[simp] theorem pushEvent_fanStrapHs (w : EventWord) (s : State) : (s.pushEvent w).fanStrapHs = s.fanStrapHs := rfl
@[simp] theorem pushEvent_inputs (w : EventWord) (s : State) : (s.pushEvent w).inputs = w :: s.inputs := rfl
@[simp] theorem pushEvent_envDraws (w : EventWord) (s : State) : (s.pushEvent w).envDraws = s.envDraws := rfl
@[simp] theorem pushEvent_orderDraws (w : EventWord) (s : State) : (s.pushEvent w).orderDraws = s.orderDraws := rfl
@[simp] theorem pushEvent_obs (w : EventWord) (s : State) : (s.pushEvent w).obs = s.obs := rfl

/-! ### snap3 -/

@[simp] theorem snap3_par (s : State) : (snap3 s).par = s.par := rfl
@[simp] theorem snap3_near (s : State) : (snap3 s).near = s.near := rfl
@[simp] theorem snap3_far (s : State) : (snap3 s).far = s.far := rfl
@[simp] theorem snap3_amb (s : State) : (snap3 s).amb = s.amb := rfl
@[simp] theorem snap3_fanSig (s : State) : (snap3 s).fanSig = s.fanSig := rfl
@[simp] theorem snap3_fanRef (s : State) : (snap3 s).fanRef = s.fanRef := rfl
@[simp] theorem snap3_tick (s : State) : (snap3 s).tick = s.tick := rfl
@[simp] theorem snap3_muxCfg (s : State) : (snap3 s).muxCfg = s.muxCfg := rfl
@[simp] theorem snap3_emitNear (s : State) : (snap3 s).emitNear = s.emitNear := rfl
@[simp] theorem snap3_emitFar (s : State) : (snap3 s).emitFar = s.emitFar := rfl
@[simp] theorem snap3_running (s : State) : (snap3 s).running = s.running := rfl
@[simp] theorem snap3_fanMode (s : State) : (snap3 s).fanMode = s.fanMode := rfl
@[simp] theorem snap3_fanOn (s : State) : (snap3 s).fanOn = s.fanOn := rfl
@[simp] theorem snap3_debounce (s : State) : (snap3 s).debounce = s.debounce := rfl
@[simp] theorem snap3_lastFanCheck (s : State) : (snap3 s).lastFanCheck = s.lastFanCheck := rfl
@[simp] theorem snap3_snapNear (s : State) : (snap3 s).snapNear = s.near.sum := rfl
@[simp] theorem snap3_snapFar (s : State) : (snap3 s).snapFar = s.far.sum := rfl
@[simp] theorem snap3_snapAmb (s : State) : (snap3 s).snapAmb = s.amb.sum := rfl
@[simp] theorem snap3_snapTick (s : State) : (snap3 s).snapTick = s.snapTick := rfl
@[simp] theorem snap3_snapSig (s : State) : (snap3 s).snapSig = s.snapSig := rfl
@[simp] theorem snap3_snapRef (s : State) : (snap3 s).snapRef = s.snapRef := rfl
@[simp] theorem snap3_lstep (s : State) : (snap3 s).lstep = s.lstep := rfl
@[simp] theorem snap3_level (s : State) : (snap3 s).level = s.level := rfl
@[simp] theorem snap3_outA (s : State) : (snap3 s).outA = s.outA := rfl
@[simp] theorem snap3_outB (s : State) : (snap3 s).outB = s.outB := rfl
@[simp] theorem snap3_adc (s : State) : (snap3 s).adc = s.adc := rfl
@[simp] theorem snap3_modeSel (s : State) : (snap3 s).modeSel = s.modeSel := rfl
@[simp] theorem snap3_fanStrapHs (s : State) : (snap3 s).fanStrapHs = s.fanStrapHs := rfl
@[simp] theorem snap3_inputs (s : State) : (snap3 s).inputs = s.inputs := rfl
@[simp] theorem snap3_envDraws (s : State) : (snap3 s).envDraws = s.envDraws := rfl
@[simp] theorem snap3_orderDraws (s : State) : (snap3 s).orderDraws = s.orderDraws := rfl
@[simp] theorem snap3_obs (s : State) : (snap3 s).obs = s.obs := rfl

/-! ### classifyStep -/

@[simp] theorem classifyStep_par (s : State) : (classifyStep s).par = s.par := rfl
@[simp] theorem classifyStep_near (s : State) : (classifyStep s).near = s.near := rfl
@[simp] theorem classifyStep_far (s : State) : (classifyStep s).far = s.far := rfl
@[simp] theorem classifyStep_amb (s : State) : (classifyStep s).amb = s.amb := rfl
@[simp] theorem classifyStep_fanSig (s : State) : (classifyStep s).fanSig = s.fanSig := rfl
@[simp] theorem classifyStep_fanRef (s : State) : (classifyStep s).fanRef = s.fanRef := rfl
@[simp] theorem classifyStep_tick (s : State) : (classifyStep s).tick = s.tick := rfl
@[simp] theorem classifyStep_muxCfg (s : State) : (classifyStep s).muxCfg = s.muxCfg := rfl
@[simp] theorem classifyStep_emitNear (s : State) : (classifyStep s).emitNear = s.emitNear := rfl
@[simp] theorem classifyStep_emitFar (s : State) : (classifyStep s).emitFar = s.emitFar := rfl
@[simp] theorem classifyStep_running (s : State) : (classifyStep s).running = s.running := rfl
@[simp] theorem classifyStep_fanMode (s : State) : (classifyStep s).fanMode = s.fanMode := rfl
@[simp] theorem classifyStep_fanOn (s : State) : (classifyStep s).fanOn = s.fanOn := rfl
@[simp] theorem classifyStep_debounce (s : State) : (classifyStep s).debounce = s.debounce := rfl
@[simp] theorem classifyStep_lastFanCheck (s : State) : (classifyStep s).lastFanCheck = s.lastFanCheck := rfl
@[simp] theorem classifyStep_snapNear (s : State) : (classifyStep s).snapNear = s.snapNear := rfl
@[simp] theorem classifyStep_snapFar (s : State) : (classifyStep s).snapFar = s.snapFar := rfl
@[simp] theorem classifyStep_snapAmb (s : State) : (classifyStep s).snapAmb = s.snapAmb := rfl
@[simp] theorem classifyStep_snapTick (s : State) : (classifyStep s).snapTick = s.snapTick := rfl
@[simp] theorem classifyStep_snapSig (s : State) : (classifyStep s).snapSig = s.snapSig := rfl
@[simp] theorem classifyStep_snapRef (s : State) : (classifyStep s).snapRef = s.snapRef := rfl
@[simp] theorem classifyStep_lstep (s : State) : (classifyStep s).lstep = s.lstep := rfl
@[simp] theorem classifyStep_level (s : State) : (classifyStep s).level = classify s.snapNear.toNat s.snapFar.toNat s.snapAmb.toNat s.modeSel := rfl
@[simp] theorem classifyStep_outA (s : State) : (classifyStep s).outA = s.outA := rfl
@[simp] theorem classifyStep_outB (s : State) : (classifyStep s).outB = s.outB := rfl
@[simp] theorem classifyStep_adc (s : State) : (classifyStep s).adc = s.adc := rfl
@[simp] theorem classifyStep_modeSel (s : State) : (classifyStep s).modeSel = s.modeSel := rfl
@[simp] theorem classifyStep_fanStrapHs (s : State) : (classifyStep s).fanStrapHs = s.fanStrapHs := rfl
@[simp] theorem classifyStep_inputs (s : State) : (classifyStep s).inputs = s.inputs := rfl
@[simp] theorem classifyStep_envDraws (s : State) : (classifyStep s).envDraws = s.envDraws := rfl
@[simp] theorem classifyStep_orderDraws (s : State) : (classifyStep s).orderDraws = s.orderDraws := rfl
@[simp] theorem classifyStep_obs (s : State) : (classifyStep s).obs = s.obs := rfl

/-! ### snapFans -/

@[simp] theorem snapFans_par (s : State) : (snapFans s).par = s.par := rfl
@[simp] theorem snapFans_near (s : State) : (snapFans s).near = s.near := rfl
@[simp] theorem snapFans_far (s : State) : (snapFans s).far = s.far := rfl
@[simp] theorem snapFans_amb (s : State) : (snapFans s).amb = s.amb := rfl
@[simp] theorem snapFans_fanSig (s : State) : (snapFans s).fanSig = s.fanSig := rfl
@[simp] theorem snapFans_fanRef (s : State) : (snapFans s).fanRef = s.fanRef := rfl
@[simp] theorem snapFans_tick (s : State) : (snapFans s).tick = s.tick := rfl
@[simp] theorem snapFans_muxCfg (s : State) : (snapFans s).muxCfg = s.muxCfg := rfl
@[simp] theorem snapFans_emitNear (s : State) : (snapFans s).emitNear = s.emitNear := rfl
@[simp] theorem snapFans_emitFar (s : State) : (snapFans s).emitFar = s.emitFar := rfl
@[simp] theorem snapFans_running (s : State) : (snapFans s).running = s.running := rfl
@[simp] theorem snapFans_fanMode (s : State) : (snapFans s).fanMode = s.fanMode := rfl
@[simp] theorem snapFans_fanOn (s : State) : (snapFans s).fanOn = s.fanOn := rfl
@[simp] theorem snapFans_debounce (s : State) : (snapFans s).debounce = s.debounce := rfl
@[simp] theorem snapFans_lastFanCheck (s : State) : (snapFans s).lastFanCheck = s.lastFanCheck := rfl
@[simp] theorem snapFans_snapNear (s : State) : (snapFans s).snapNear = s.snapNear := rfl
@[simp] theorem snapFans_snapFar (s : State) : (snapFans s).snapFar = s.snapFar := rfl
@[simp] theorem snapFans_snapAmb (s : State) : (snapFans s).snapAmb = s.snapAmb := rfl
@[simp] theorem snapFans_snapTick (s : State) : (snapFans s).snapTick = s.snapTick := rfl
@[simp] theorem snapFans_snapSig (s : State) : (snapFans s).snapSig = s.fanSig.sum := rfl
@[simp] theorem snapFans_snapRef (s : State) : (snapFans s).snapRef = s.fanRef.sum := rfl
@[simp] theorem snapFans_lstep (s : State) : (snapFans s).lstep = s.lstep := rfl
@[simp] theorem snapFans_level (s : State) : (snapFans s).level = s.level := rfl
@[simp] theorem snapFans_outA (s : State) : (snapFans s).outA = s.outA := rfl
@[simp] theorem snapFans_outB (s : State) : (snapFans s).outB = s.outB := rfl
@[simp] theorem snapFans_adc (s : State) : (snapFans s).adc = s.adc := rfl
@[simp] theorem snapFans_modeSel (s : State) : (snapFans s).modeSel = s.modeSel := rfl
@[simp] theorem snapFans_fanStrapHs (s : State) : (snapFans s).fanStrapHs = s.fanStrapHs := rfl
@[simp] theorem snapFans_inputs (s : State) : (snapFans s).inputs = s.inputs := rfl
@[simp] theorem snapFans_envDraws (s : State) : (snapFans s).envDraws = s.envDraws := rfl
@[simp] theorem snapFans_orderDraws (s : State) : (snapFans s).orderDraws = s.orderDraws := rfl
@[simp] theorem snapFans_obs (s : State) : (snapFans s).obs = s.obs := rfl

/-! ### advanceMarker -/

@[simp] theorem advanceMarker_par (s : State) : (advanceMarker s).par = s.par := rfl
@[simp] theorem advanceMarker_near (s : State) : (advanceMarker s).near = s.near := rfl
@[simp] theorem advanceMarker_far (s : State) : (advanceMarker s).far = s.far := rfl
@[simp] theorem advanceMarker_amb (s : State) : (advanceMarker s).amb = s.amb := rfl
@[simp] theorem advanceMarker_fanSig (s : State) : (advanceMarker s).fanSig = s.fanSig := rfl
@[simp] theorem advanceMarker_fanRef (s : State) : (advanceMarker s).fanRef = s.fanRef := rfl
@[simp] theorem advanceMarker_tick (s : State) : (advanceMarker s).tick = s.tick := rfl
@[simp] theorem advanceMarker_muxCfg (s : State) : (advanceMarker s).muxCfg = s.muxCfg := rfl
@[simp] theorem advanceMarker_emitNear (s : State) : (advanceMarker s).emitNear = s.emitNear := rfl
@[simp] theorem advanceMarker_emitFar (s : State) : (advanceMarker s).emitFar = s.emitFar := rfl
@[simp] theorem advanceMarker_running (s : State) : (advanceMarker s).running = s.running := rfl
@[simp] theorem advanceMarker_fanMode (s : State) : (advanceMarker s).fanMode = s.fanMode := rfl
@[simp] theorem advanceMarker_fanOn (s : State) : (advanceMarker s).fanOn = s.fanOn := rfl
@[simp] theorem advanceMarker_debounce (s : State) : (advanceMarker s).debounce = s.debounce := rfl
@[simp] theorem advanceMarker_lastFanCheck (s : State) : (advanceMarker s).lastFanCheck = nextMarker s.par s.lastFanCheck := rfl
@[simp] theorem advanceMarker_snapNear (s : State) : (advanceMarker s).snapNear = s.snapNear := rfl
@[simp] theorem advanceMarker_snapFar (s : State) : (advanceMarker s).snapFar = s.snapFar := rfl
@[simp] theorem advanceMarker_snapAmb (s : State) : (advanceMarker s).snapAmb = s.snapAmb := rfl
@[simp] theorem advanceMarker_snapTick (s : State) : (advanceMarker s).snapTick = s.snapTick := rfl
@[simp] theorem advanceMarker_snapSig (s : State) : (advanceMarker s).snapSig = s.snapSig := rfl
@[simp] theorem advanceMarker_snapRef (s : State) : (advanceMarker s).snapRef = s.snapRef := rfl
@[simp] theorem advanceMarker_lstep (s : State) : (advanceMarker s).lstep = s.lstep := rfl
@[simp] theorem advanceMarker_level (s : State) : (advanceMarker s).level = s.level := rfl
@[simp] theorem advanceMarker_outA (s : State) : (advanceMarker s).outA = s.outA := rfl
@[simp] theorem advanceMarker_outB (s : State) : (advanceMarker s).outB = s.outB := rfl
@[simp] theorem advanceMarker_adc (s : State) : (advanceMarker s).adc = s.adc := rfl
@[simp] theorem advanceMarker_modeSel (s : State) : (advanceMarker s).modeSel = s.modeSel := rfl
@[simp] theorem advanceMarker_fanStrapHs (s : State) : (advanceMarker s).fanStrapHs = s.fanStrapHs := rfl
@[simp] theorem advanceMarker_inputs (s : State) : (advanceMarker s).inputs = s.inputs := rfl
@[simp] theorem advanceMarker_envDraws (s : State) : (advanceMarker s).envDraws = s.envDraws := rfl
@[simp] theorem advanceMarker_orderDraws (s : State) : (advanceMarker s).orderDraws = s.orderDraws := rfl
@[simp] theorem advanceMarker_obs (s : State) : (advanceMarker s).obs = s.obs := rfl

/-! ### filterUpdate and accumulate: every field that is no filter is kept, and so is every other filter -/

@[simp] theorem filterUpdate_par (b : BufId) (v : Reading) (s : State) : (s.filterUpdate b v).par = s.par := by
  cases b <;> rfl
@[simp] theorem filterUpdate_tick (b : BufId) (v : Reading) (s : State) : (s.filterUpdate b v).tick = s.tick := by
  cases b <;> rfl
@[simp] theorem filterUpdate_muxCfg (b : BufId) (v : Reading) (s : State) : (s.filterUpdate b v).muxCfg = s.muxCfg := by
  cases b <;> rfl
@[simp] theorem filterUpdate_emitNear (b : BufId) (v : Reading) (s : State) : (s.filterUpdate b v).emitNear = s.emitNear := by
  cases b <;> rfl
@[simp] theorem filterUpdate_emitFar (b : BufId) (v : Reading) (s : State) : (s.filterUpdate b v).emitFar = s.emitFar := by
  cases b <;> rfl
@[simp] theorem filterUpdate_running (b : BufId) (v : Reading) (s : State) : (s.filterUpdate b v).running = s.running := by
  cases b <;> rfl
@[simp] theorem filterUpdate_fanMode (b : BufId) (v : Reading) (s : State) : (s.filterUpdate b v).fanMode = s.fanMode := by
  cases b <;> rfl
@[simp] theorem filterUpdate_fanOn (b : BufId) (v : Reading) (s : State) : (s.filterUpdate b v).fanOn = s.fanOn := by
  cases b <;> rfl
@[simp] theorem filterUpdate_debounce (b : BufId) (v : Reading) (s : State) : (s.filterUpdate b v).debounce = s.debounce := by
  cases b <;> rfl
@[simp] theorem filterUpdate_lastFanCheck (b : BufId) (v : Reading) (s : State) : (s.filterUpdate b v).lastFanCheck = s.lastFanCheck := by
  cases b <;> rfl
@[simp] theorem filterUpdate_snapNear (b : BufId) (v : Reading) (s : State) : (s.filterUpdate b v).snapNear = s.snapNear := by
  cases b <;> rfl
@[simp] theorem filterUpdate_snapFar (b : BufId) (v : Reading) (s : State) : (s.filterUpdate b v).snapFar = s.snapFar := by
  cases b <;> rfl
@[simp] theorem filterUpdate_snapAmb (b : BufId) (v : Reading) (s : State) : (s.filterUpdate b v).snapAmb = s.snapAmb := by
  cases b <;> rfl
@[simp] theorem filterUpdate_snapTick (b : BufId) (v : Reading) (s : State) : (s.filterUpdate b v).snapTick = s.snapTick := by
  cases b <;> rfl
@[simp] theorem filterUpdate_snapSig (b : BufId) (v : Reading) (s : State) : (s.filterUpdate b v).snapSig = s.snapSig := by
  cases b <;> rfl
@[simp] theorem filterUpdate_snapRef (b : BufId) (v : Reading) (s : State) : (s.filterUpdate b v).snapRef = s.snapRef := by
  cases b <;> rfl
@[simp] theorem filterUpdate_lstep (b : BufId) (v : Reading) (s : State) : (s.filterUpdate b v).lstep = s.lstep := by
  cases b <;> rfl
@[simp] theorem filterUpdate_level (b : BufId) (v : Reading) (s : State) : (s.filterUpdate b v).level = s.level := by
  cases b <;> rfl
@[simp] theorem filterUpdate_outA (b : BufId) (v : Reading) (s : State) : (s.filterUpdate b v).outA = s.outA := by
  cases b <;> rfl
@[simp] theorem filterUpdate_outB (b : BufId) (v : Reading) (s : State) : (s.filterUpdate b v).outB = s.outB := by
  cases b <;> rfl
@[simp] theorem filterUpdate_adc (b : BufId) (v : Reading) (s : State) : (s.filterUpdate b v).adc = s.adc := by
  cases b <;> rfl
@[simp] theorem filterUpdate_modeSel (b : BufId) (v : Reading) (s : State) : (s.filterUpdate b v).modeSel = s.modeSel := by
  cases b <;> rfl
@[simp] theorem filterUpdate_fanStrapHs (b : BufId) (v : Reading) (s : State) : (s.filterUpdate b v).fanStrapHs = s.fanStrapHs := by
  cases b <;> rfl
@[simp] theorem filterUpdate_inputs (b : BufId) (v : Reading) (s : State) : (s.filterUpdate b v).inputs = s.inputs := by
  cases b <;> rfl
@[simp] theorem filterUpdate_envDraws (b : BufId) (v : Reading) (s : State) : (s.filterUpdate b v).envDraws = s.envDraws := by
  cases b <;> rfl
@[simp] theorem filterUpdate_orderDraws (b : BufId) (v : Reading) (s : State) : (s.filterUpdate b v).orderDraws = s.orderDraws := by
  cases b <;> rfl
@[simp] theorem filterUpdate_obs (b : BufId) (v : Reading) (s : State) : (s.filterUpdate b v).obs = s.obs := by
  cases b <;> rfl
@[simp] theorem filterUpdate_near_near (v : Reading) (s : State) : (s.filterUpdate .near v).near = (s.near.update v).1 := rfl
@[simp] theorem filterUpdate_near_far (v : Reading) (s : State) : (s.filterUpdate .near v).far = s.far := rfl
@[simp] theorem filterUpdate_near_amb (v : Reading) (s : State) : (s.filterUpdate .near v).amb = s.amb := rfl
@[simp] theorem filterUpdate_near_fanSig (v : Reading) (s : State) : (s.filterUpdate .near v).fanSig = s.fanSig := rfl
@[simp] theorem filterUpdate_near_fanRef (v : Reading) (s : State) : (s.filterUpdate .near v).fanRef = s.fanRef := rfl
@[simp] theorem filterUpdate_far_near (v : Reading) (s : State) : (s.filterUpdate .far v).near = s.near := rfl
@[simp] theorem filterUpdate_far_far (v : Reading) (s : State) : (s.filterUpdate .far v).far = (s.far.update v).1 := rfl
@[simp] theorem filterUpdate_far_amb (v : Reading) (s : State) : (s.filterUpdate .far v).amb = s.amb := rfl
@[simp] theorem filterUpdate_far_fanSig (v : Reading) (s : State) : (s.filterUpdate .far v).fanSig = s.fanSig := rfl
@[simp] theorem filterUpdate_far_fanRef (v : Reading) (s : State) : (s.filterUpdate .far v).fanRef = s.fanRef := rfl
@[simp] theorem filterUpdate_amb_near (v : Reading) (s : State) : (s.filterUpdate .amb v).near = s.near := rfl
@[simp] theorem filterUpdate_amb_far (v : Reading) (s : State) : (s.filterUpdate .amb v).far = s.far := rfl
@[simp] theorem filterUpdate_amb_amb (v : Reading) (s : State) : (s.filterUpdate .amb v).amb = (s.amb.update v).1 := rfl
@[simp] theorem filterUpdate_amb_fanSig (v : Reading) (s : State) : (s.filterUpdate .amb v).fanSig = s.fanSig := rfl
@[simp] theorem filterUpdate_amb_fanRef (v : Reading) (s : State) : (s.filterUpdate .amb v).fanRef = s.fanRef := rfl
@[simp] theorem filterUpdate_fanSig_near (v : Reading) (s : State) : (s.filterUpdate .fanSig v).near = s.near := rfl
@[simp] theorem filterUpdate_fanSig_far (v : Reading) (s : State) : (s.filterUpdate .fanSig v).far = s.far := rfl
@[simp] theorem filterUpdate_fanSig_amb (v : Reading) (s : State) : (s.filterUpdate .fanSig v).amb = s.amb := rfl
@[simp] theorem filterUpdate_fanSig_fanSig (v : Reading) (s : State) : (s.filterUpdate .fanSig v).fanSig = (s.fanSig.update v).1 := rfl
@[simp] theorem filterUpdate_fanSig_fanRef (v : Reading) (s : State) : (s.filterUpdate .fanSig v).fanRef = s.fanRef := rfl
@[simp] theorem filterUpdate_fanRef_near (v : Reading) (s : State) : (s.filterUpdate .fanRef v).near = s.near := rfl
@[simp] theorem filterUpdate_fanRef_far (v : Reading) (s : State) : (s.filterUpdate .fanRef v).far = s.far := rfl
@[simp] theorem filterUpdate_fanRef_amb (v : Reading) (s : State) : (s.filterUpdate .fanRef v).amb = s.amb := rfl
@[simp] theorem filterUpdate_fanRef_fanSig (v : Reading) (s : State) : (s.filterUpdate .fanRef v).fanSig = s.fanSig := rfl
@[simp] theorem filterUpdate_fanRef_fanRef (v : Reading) (s : State) : (s.filterUpdate .fanRef v).fanRef = (s.fanRef.update v).1 := rfl

@[simp] theorem accumulate_par (b : BufId) (s : State) : (s.accumulate b).par = s.par := by
  unfold State.accumulate; split <;> simp
@[simp] theorem accumulate_tick (b : BufId) (s : State) : (s.accumulate b).tick = s.tick := by
  unfold State.accumulate; split <;> simp
@[simp] theorem accumulate_muxCfg (b : BufId) (s : State) : (s.accumulate b).muxCfg = s.muxCfg := by
  unfold State.accumulate; split <;> simp
@[simp] theorem accumulate_emitNear (b : BufId) (s : State) : (s.accumulate b).emitNear = s.emitNear := by
  unfold State.accumulate; split <;> simp
@[simp] theorem accumulate_emitFar (b : BufId) (s : State) : (s.accumulate b).emitFar = s.emitFar := by
  unfold State.accumulate; split <;> simp
@[simp] theorem accumulate_running (b : BufId) (s : State) : (s.accumulate b).running = s.running := by
  unfold State.accumulate; split <;> simp
@[simp] theorem accumulate_fanMode (b : BufId) (s : State) : (s.accumulate b).fanMode = s.fanMode := by
  unfold State.accumulate; split <;> simp
@[simp] theorem accumulate_fanOn (b : BufId) (s : State) : (s.accumulate b).fanOn = s.fanOn := by
  unfold State.accumulate; split <;> simp
@[simp] theorem accumulate_debounce (b : BufId) (s : State) : (s.accumulate b).debounce = s.debounce := by
  unfold State.accumulate; split <;> simp
@[simp] theorem accumulate_lastFanCheck (b : BufId) (s : State) : (s.accumulate b).lastFanCheck = s.lastFanCheck := by
  unfold State.accumulate; split <;> simp
@[simp] theorem accumulate_snapNear (b : BufId) (s : State) : (s.accumulate b).snapNear = s.snapNear := by
  unfold State.accumulate; split <;> simp
@[simp] theorem accumulate_snapFar (b : BufId) (s : State) : (s.accumulate b).snapFar = s.snapFar := by
  unfold State.accumulate; split <;> simp
@[simp] theorem accumulate_snapAmb (b : BufId) (s : State) : (s.accumulate b).snapAmb = s.snapAmb := by
  unfold State.accumulate; split <;> simp
@[simp] theorem accumulate_snapTick (b : BufId) (s : State) : (s.accumulate b).snapTick = s.snapTick := by
  unfold State.accumulate; split <;> simp
@[simp] theorem accumulate_snapSig (b : BufId) (s : State) : (s.accumulate b).snapSig = s.snapSig := by
  unfold State.accumulate; split <;> simp
@[simp] theorem accumulate_snapRef (b : BufId) (s : State) : (s.accumulate b).snapRef = s.snapRef := by
  unfold State.accumulate; split <;> simp
@[simp] theorem accumulate_lstep (b : BufId) (s : State) : (s.accumulate b).lstep = s.lstep := by
  unfold State.accumulate; split <;> simp
@[simp] theorem accumulate_level (b : BufId) (s : State) : (s.accumulate b).level = s.level := by
  unfold State.accumulate; split <;> simp
@[simp] theorem accumulate_outA (b : BufId) (s : State) : (s.accumulate b).outA = s.outA := by
  unfold State.accumulate; split <;> simp
@[simp] theorem accumulate_outB (b : BufId) (s : State) : (s.accumulate b).outB = s.outB := by
  unfold State.accumulate; split <;> simp
@[simp] theorem accumulate_adc (b : BufId) (s : State) : (s.accumulate b).adc = s.adc := by
  unfold State.accumulate; split <;> simp
@[simp] theorem accumulate_modeSel (b : BufId) (s : State) : (s.accumulate b).modeSel = s.modeSel := by
  unfold State.accumulate; split <;> simp
@[simp] theorem accumulate_fanStrapHs (b : BufId) (s : State) : (s.accumulate b).fanStrapHs = s.fanStrapHs := by
  unfold State.accumulate; split <;> simp
@[simp] theorem accumulate_inputs (b : BufId) (s : State) : (s.accumulate b).inputs = s.inputs := by
  unfold State.accumulate; split <;> simp
@[simp] theorem accumulate_envDraws (b : BufId) (s : State) : (s.accumulate b).envDraws = s.envDraws := by
  unfold State.accumulate; split <;> simp
@[simp] theorem accumulate_orderDraws (b : BufId) (s : State) : (s.accumulate b).orderDraws = s.orderDraws := by
  unfold State.accumulate; split <;> simp
@[simp] theorem accumulate_obs (b : BufId) (s : State) : (s.accumulate b).obs = s.obs := by
  unfold State.accumulate; split <;> simp
@[simp] theorem accumulate_near_near (s : State) :
    (s.accumulate .near).near = if s.running then (s.near.update s.adc).1 else s.near := by
  unfold State.accumulate; split <;> simp
@[simp] theorem accumulate_near_far (s : State) : (s.accumulate .near).far = s.far := by
  unfold State.accumulate; split <;> simp
@[simp] theorem accumulate_near_amb (s : State) : (s.accumulate .near).amb = s.amb := by
  unfold State.accumulate; split <;> simp
@[simp] theorem accumulate_near_fanSig (s : State) : (s.accumulate .near).fanSig = s.fanSig := by
  unfold State.accumulate; split <;> simp
@[simp] theorem accumulate_near_fanRef (s : State) : (s.accumulate .near).fanRef = s.fanRef := by
  unfold State.accumulate; split <;> simp
@[simp] theorem accumulate_far_near (s : State) : (s.accumulate .far).near = s.near := by
  unfold State.accumulate; split <;> simp
@[simp] theorem accumulate_far_far (s : State) :
    (s.accumulate .far).far = if s.running then (s.far.update s.adc).1 else s.far := by
  unfold State.accumulate; split <;> simp
@[simp] theorem accumulate_far_amb (s : State) : (s.accumulate .far).amb = s.amb := by
  unfold State.accumulate; split <;> simp
@[simp] theorem accumulate_far_fanSig (s : State) : (s.accumulate .far).fanSig = s.fanSig := by
  unfold State.accumulate; split <;> simp
@[simp] theorem accumulate_far_fanRef (s : State) : (s.accumulate .far).fanRef = s.fanRef := by
  unfold State.accumulate; split <;> simp
@[simp] theorem accumulate_amb_near (s : State) : (s.accumulate .amb).near = s.near := by
  unfold State.accumulate; split <;> simp
@[simp] theorem accumulate_amb_far (s : State) : (s.accumulate .amb).far = s.far := by
  unfold State.accumulate; split <;> simp
@[simp] theorem accumulate_amb_amb (s : State) :
    (s.accumulate .amb).amb = if s.running then (s.amb.update s.adc).1 else s.amb := by
  unfold State.accumulate; split <;> simp
@[simp] theorem accumulate_amb_fanSig (s : State) : (s.accumulate .amb).fanSig = s.fanSig := by
  unfold State.accumulate; split <;> simp
@[simp] theorem accumulate_amb_fanRef (s : State) : (s.accumulate .amb).fanRef = s.fanRef := by
  unfold State.accumulate; split <;> simp
@[simp] theorem accumulate_fanSig_near (s : State) : (s.accumulate .fanSig).near = s.near := by
  unfold State.accumulate; split <;> simp
@[simp] theorem accumulate_fanSig_far (s : State) : (s.accumulate .fanSig).far = s.far := by
  unfold State.accumulate; split <;> simp
@[simp] theorem accumulate_fanSig_amb (s : State) : (s.accumulate .fanSig).amb = s.amb := by
  unfold State.accumulate; split <;> simp
@[simp] theorem accumulate_fanSig_fanSig (s : State) :
    (s.accumulate .fanSig).fanSig = if s.running then (s.fanSig.update s.adc).1 else s.fanSig := by
  unfold State.accumulate; split <;> simp
@[simp] theorem accumulate_fanSig_fanRef (s : State) : (s.accumulate .fanSig).fanRef = s.fanRef := by
  unfold State.accumulate; split <;> simp
@[simp] theorem accumulate_fanRef_near (s : State) : (s.accumulate .fanRef).near = s.near := by
  unfold State.accumulate; split <;> simp
@[simp] theorem accumulate_fanRef_far (s : State) : (s.accumulate .fanRef).far = s.far := by
  unfold State.accumulate; split <;> simp
@[simp] theorem accumulate_fanRef_amb (s : State) : (s.accumulate .fanRef).amb = s.amb := by
  unfold State.accumulate; split <;> simp
@[simp] theorem accumulate_fanRef_fanSig (s : State) : (s.accumulate .fanRef).fanSig = s.fanSig := by
  unfold State.accumulate; split <;> simp
@[simp] theorem accumulate_fanRef_fanRef (s : State) :
    (s.accumulate .fanRef).fanRef = if s.running then (s.fanRef.update s.adc).1 else s.fanRef := by
  unfold State.accumulate; split <;> simp

end Sys2Proof.Machine
end

