-- ==== Sys2Proof/Laws/Step.lean ====
section
/-! SUPPORT. What a fetch, a slot, a line write, a fan check and a step can do, each said once. -/

namespace Sys2Proof.Machine

/-! ### Fetching -/

@[simp] theorem fetch_cons (s : State) (w : EventWord) (rest : List EventWord) (h : s.inputs = w :: rest) :
    fetch s = (decodeEvt16 w, { s with inputs := rest }) := by
  simp [fetch, h]

@[simp] theorem fetch_nil (s : State) (h : s.inputs = []) :
    fetch s = (.ok (Config.envEvent s.envDraws).instr, { s with envDraws := s.envDraws + 1 }) := by
  simp [fetch, h]

/-- A fetched operation is an event's. -/
theorem decodeEvt16_is_event {w : EventWord} {i : Instr} (h : decodeEvt16 w = .ok i) : ∃ e : Event, i = e.instr := by
  unfold decodeEvt16 at h
  split at h
  · split at h <;> cases h
    exact ⟨.reset _, rfl⟩
  · split at h <;> cases h
    exact ⟨.start, rfl⟩
  · split at h <;> cases h
    exact ⟨.tick _, rfl⟩
  · split at h <;> cases h
    exact ⟨.loop _, rfl⟩
  · cases h

/-- A state and the state with its queue and its environment draws moved on: what a fetch changes. -/
theorem fetch_ok {s t : State} {i : Instr} (h : fetch s = (.ok i, t)) :
    (∃ e : Event, i = e.instr) ∧ t = { s with inputs := t.inputs, envDraws := t.envDraws } := by
  unfold fetch at h
  split at h
  · cases h; exact ⟨⟨_, rfl⟩, rfl⟩
  · simp only [Prod.mk.injEq] at h
    obtain ⟨h1, rfl⟩ := h
    exact ⟨decodeEvt16_is_event h1, rfl⟩

/-! ### Steps -/

/-- A step that goes on executes one event on the state a fetch leaves. -/
theorem step_next {s t : State} (h : step s = .next t) :
    ∃ (e : Event) (u : State), u = { s with inputs := u.inputs, envDraws := u.envDraws } ∧
      exec e.instr u = .next t := by
  unfold step at h
  split at h
  · rename_i i u hf
    obtain ⟨⟨e, rfl⟩, hu⟩ := fetch_ok hf
    exact ⟨e, u, hu, h⟩
  · cases h

/-! ### Line writes of the encoder -/

/-- The first write of an order: one line, nothing else but the record. -/
theorem writeFirst_cases (o : LineOrder) (s : State) :
    (o = .aFirst ∧ writeFirst o s = s.writeOutA (wantA s.level)) ∨
    (o = .bFirst ∧ writeFirst o s = s.writeOutB (wantB s.level)) := by
  cases o
  · exact .inl ⟨rfl, rfl⟩
  · exact .inr ⟨rfl, rfl⟩

/-- The second write of an order: the other line, nothing else but the record. -/
theorem writeSecond_cases (o : LineOrder) (s : State) :
    (o = .aFirst ∧ writeSecond o s = s.writeOutB (wantB s.level)) ∨
    (o = .bFirst ∧ writeSecond o s = s.writeOutA (wantA s.level)) := by
  cases o
  · exact .inl ⟨rfl, rfl⟩
  · exact .inr ⟨rfl, rfl⟩

/-! ### Fan checks -/

/-- The writes of a fan check change `fanOn`, `debounce` and the record, and nothing else. -/
theorem applyFanWrites_eq (w : FanWrites) (s : State) :
    applyFanWrites w s = { s with
      fanOn := w.fanOn.getD s.fanOn
      debounce := w.debounce.getD s.debounce
      obs := s.obs ++ (w.fanOn.map Obs.fanOn).toList } := by
  obtain ⟨on, d⟩ := w
  cases on <;> cases d <;> simp [applyFanWrites, State.writeFanOn]

/-- The next `(fanOn, debounce)` is that of the writes. -/
theorem fanNext_eq (p : Config.FanProfile) (reload sig ref : Nat) (on : Bool) (d : Nat) :
    fanNext p reload sig ref on d =
      ((fanControl p reload sig ref on d).fanOn.getD on, (fanControl p reload sig ref on d).debounce.getD d) := rfl

/-- The fan on: the row of the state diagram by the band and the counter (43_fan.md R112, R114). -/
theorem fanNext_on (p : Config.FanProfile) (reload sig ref d : Nat) : fanNext p reload sig ref true d =
    if fanBand p (fanDiff sig ref) then (if d = 0 then (false, 0) else (true, d - 1)) else (true, d) := by
  unfold fanNext fanControl
  by_cases hb : fanBand p (fanDiff sig ref) <;> by_cases hd : d = 0 <;> simp [hb, hd]

/-- The fan off: the row of the state diagram by the turn-on condition (43_fan.md R113, R114). -/
theorem fanNext_off (p : Config.FanProfile) (reload sig ref d : Nat) : fanNext p reload sig ref false d =
    if fanTrig p sig ref then (true, reload) else (false, d) := by
  unfold fanNext fanControl
  by_cases ht : fanTrig p sig ref <;> simp [ht]

/-- A fan check: the snapshots, `(fanOn, debounce)`, the record with its one refresh at the end. -/
theorem fanCheck_eq (p : Config.FanProfile) (reload : Nat) (s : State) :
    fanCheck p reload s = { s with
      snapSig := s.fanSig.sum
      snapRef := s.fanRef.sum
      fanOn := (fanNext p reload s.fanSig.sum.toNat s.fanRef.sum.toNat s.fanOn s.debounce).1
      debounce := (fanNext p reload s.fanSig.sum.toNat s.fanRef.sum.toNat s.fanOn s.debounce).2
      obs := s.obs ++ ((fanControl p reload s.fanSig.sum.toNat s.fanRef.sum.toNat s.fanOn
        s.debounce).fanOn.map Obs.fanOn).toList ++ [.wdtKick] } := by
  simp [fanCheck, applyFanWrites_eq, snapFans, fanNext_eq, State.kickWatchdog, State.observe]

/-! ### The two agents -/

/-- What an event of the LOOP agent does: nothing while it is not enabled, else the step `lstep` names. -/
theorem execLoop_cases {m : Bool} {s t : State} (h : exec (.loop m) s = .next t) :
    (s.running = false ∧ t = s) ∨ (s.running = true ∧ exec s.lstep.instr (s.withModeSel m) = .next t) := by
  change execLoop m s = _ at h
  unfold execLoop at h
  split at h
  · refine .inr ⟨by assumption, ?_⟩
    unfold loopStep at h
    simp only [withModeSel_lstep] at h
    cases hl : s.lstep <;> simp only [hl] at h <;> exact h
  · cases h; exact .inl ⟨by assumption, rfl⟩

/-- A slot writes filters, lines and the record, and nothing else. -/
theorem performSlot_frame (b : Bool) (c : SlotClass) (s : State) :
    performSlot b c s = { s with
      near := (performSlot b c s).near
      far := (performSlot b c s).far
      amb := (performSlot b c s).amb
      fanSig := (performSlot b c s).fanSig
      fanRef := (performSlot b c s).fanRef
      emitNear := (performSlot b c s).emitNear
      emitFar := (performSlot b c s).emitFar
      muxCfg := (performSlot b c s).muxCfg
      obs := (performSlot b c s).obs } := by
  have acc : ∀ bf : BufId, s.accumulate bf = { s with
      near := (s.accumulate bf).near
      far := (s.accumulate bf).far
      amb := (s.accumulate bf).amb
      fanSig := (s.accumulate bf).fanSig
      fanRef := (s.accumulate bf).fanRef } := by
    intro bf
    unfold State.accumulate
    split
    · cases bf <;> rfl
    · rfl
  cases c
  case ph0Fan => simp only [performSlot, slotPh0Fan]; rw [acc]; rfl
  case phAmb => simp only [performSlot, slotPhAmb]; rw [acc]; rfl
  case phFar => simp only [performSlot, slotPhFar]; rw [acc]; rfl
  case phNear => simp only [performSlot, slotPhNear]; rw [acc]; rfl
  case ph11FarMuxfan => simp only [performSlot, slotPh11FarMuxfan]; rw [acc]; rfl
  case ph12Near => simp only [performSlot, slotPh12Near]; rw [acc]
  case phDiscard => rfl
  case ph15Muxphoto => rfl

/-! ### Tick counts -/

theorem tickRange_pos (p : Config.Params) : 0 < p.tickRange := Nat.pow_pos (by omega)

/-- The schedule needs five bits of `tick`, which well-formed parameters have. -/
theorem dvd_tickRange {p : Config.Params} (h : p.wf = true) : 32 ∣ p.tickRange := by
  simp only [Config.Params.wf, Config.Params.tickWOk, Bool.and_eq_true, decide_eq_true_eq] at h
  exact Nat.pow_dvd_pow 2 h.1.1.1.1

/-- The advance of `tick` moves the selector on by one, through the wrap as everywhere else (41_scheduler.md R76). -/
theorem selectorOf_advanceTick {s : State} (h : s.par.wf = true) :
    selectorOf s.advanceTick.tick = selectorOf s.tick + 1 := by
  obtain ⟨c, hc⟩ := dvd_tickRange h
  apply BitVec.eq_of_toNat_eq
  simp only [selectorOf, State.advanceTick, BitVec.toNat_ofNat, BitVec.toNat_add, hc]
  rw [show (2 : Nat) ^ 5 = 32 from rfl, Nat.mod_mul_right_mod]
  simp

/-- An elapsed time is below the range (44_mainloop.md R124). -/
theorem elapsed_lt {range snap last : Nat} (h : 0 < range) : elapsed range snap last < range := Nat.mod_lt _ h

/-- The elapsed time from a marker to n ticks later is n modulo the range (44_mainloop.md R124). -/
theorem elapsed_add {range : Nat} (h : 0 < range) (m n : Nat) : elapsed range ((m + n) % range) m = n % range := by
  have hm := Nat.mod_lt m h
  have e : m + n + (range - m % range) = n + range * (m / range + 1) := by
    have := Nat.div_add_mod m range
    rw [Nat.mul_add, Nat.mul_one]; omega
  rw [elapsed, Nat.mod_add_mod, e, Nat.add_mul_mod_self_left]

/-- `elapsed` is the difference modulo the range in the integers, on any tick counts (44_mainloop.md R123, R124). -/
theorem elapsed_int {range : Nat} (h : 0 < range) (snap last : Nat) :
    ((elapsed range snap last : Nat) : Int) = ((snap : Int) - last) % range := by
  have hm := (Nat.mod_lt last h).le
  have hq := Int.emod_add_mul_ediv (last : Int) range
  rw [elapsed, Int.natCast_emod, Nat.cast_add, Nat.cast_sub hm, Int.natCast_emod]
  refine Int.emod_eq_emod_iff_emod_sub_eq_zero.mpr (Int.emod_eq_zero_of_dvd ⟨(last : Int) / range + 1, ?_⟩)
  linarith

/-! ### Reset -/

/-- What `raise Reset` leaves: the reset state, the mode latched from the strap, the reset contents of `FANREF`, and
what is outside the block as it was, the record with the reset's own writes (60_exceptions.md R148). -/
theorem raiseReset_eq (s : State) : s.raiseReset = { State.reset with
    par := s.par
    fanRef := SampleBuffer.ofSlots s.par.fanrefInit
    fanMode := FanMode.ofStrap s.fanStrapHs
    adc := s.adc
    modeSel := s.modeSel
    fanStrapHs := s.fanStrapHs
    inputs := s.inputs
    envDraws := s.envDraws
    orderDraws := s.orderDraws + 1
    obs := s.obs ++ resetWrites s.tick } := rfl

/-! ### The parameters -/

/-- No operation changes the parameters (10_state.md R38). -/
theorem exec_par {i : Instr} {s t : State} (h : exec i s = .next t) : t.par = s.par := by
  have step {l : LStep} {s t : State} (h : exec l.instr s = .next t) : t.par = s.par := by
    cases l <;> cases h <;> first
      | rfl
      | (cases s.lineOrder <;> rfl)
      | (rw [fanCheck_eq]; rfl)
  have slot (b : Bool) (c : SlotClass) (s : State) : (performSlot b c s).advanceTick.par = s.par := by
    rw [performSlot_frame]; rfl
  cases i
  case ls0Snap3 => exact step (l := .ls0) h
  case ls1Classify => exact step (l := .ls1) h
  case ls2Outw1 => exact step (l := .ls2) h
  case ls3Outw2 => exact step (l := .ls3) h
  case ls4Ticksnap => exact step (l := .ls4) h
  case ls5Gate => exact step (l := .ls5) h
  case ls6Fancheck => exact step (l := .ls6) h
  case reset => cases h; rfl
  case start => cases h; rfl
  case tick v => cases h; exact slot _ _ (s.withAdc v)
  case loop m =>
    rcases execLoop_cases h with ⟨-, rfl⟩ | ⟨-, h⟩
    · rfl
    · have e := step h
      exact e
  case ph0Fan b => cases h; exact slot b .ph0Fan s
  case phAmb1 b => cases h; exact slot b .phAmb s
  case phAmb4 b => cases h; exact slot b .phAmb s
  case phAmb7 b => cases h; exact slot b .phAmb s
  case phAmb10 b => cases h; exact slot b .phAmb s
  case phFar2 b => cases h; exact slot b .phFar s
  case phFar5 b => cases h; exact slot b .phFar s
  case phFar8 b => cases h; exact slot b .phFar s
  case phNear3 b => cases h; exact slot b .phNear s
  case phNear6 b => cases h; exact slot b .phNear s
  case phNear9 b => cases h; exact slot b .phNear s
  case ph11FarMuxfan b => cases h; exact slot b .ph11FarMuxfan s
  case ph12Near b => cases h; exact slot b .ph12Near s
  case phDiscard13 b => cases h; exact slot b .phDiscard s
  case phDiscard14 b => cases h; exact slot b .phDiscard s
  case ph15Muxphoto b => cases h; exact slot b .ph15Muxphoto s

end Sys2Proof.Machine
end

