-- ==== Sys2Proof/Laws/Loop.lean ====
section
/-! SUPPORT. The fields of the state after the LOOP agent's compound operations, and what a LOOP step as a whole can
write. -/

namespace Sys2Proof.Machine

/-! ### writeFirst -/

@[simp] theorem writeFirst_par (o : LineOrder) (s : State) : (writeFirst o s).par = s.par := by
  cases o <;> rfl
@[simp] theorem writeFirst_near (o : LineOrder) (s : State) : (writeFirst o s).near = s.near := by
  cases o <;> rfl
@[simp] theorem writeFirst_far (o : LineOrder) (s : State) : (writeFirst o s).far = s.far := by
  cases o <;> rfl
@[simp] theorem writeFirst_amb (o : LineOrder) (s : State) : (writeFirst o s).amb = s.amb := by
  cases o <;> rfl
@[simp] theorem writeFirst_fanSig (o : LineOrder) (s : State) : (writeFirst o s).fanSig = s.fanSig := by
  cases o <;> rfl
@[simp] theorem writeFirst_fanRef (o : LineOrder) (s : State) : (writeFirst o s).fanRef = s.fanRef := by
  cases o <;> rfl
@[simp] theorem writeFirst_tick (o : LineOrder) (s : State) : (writeFirst o s).tick = s.tick := by
  cases o <;> rfl
@[simp] theorem writeFirst_muxCfg (o : LineOrder) (s : State) : (writeFirst o s).muxCfg = s.muxCfg := by
  cases o <;> rfl
@[simp] theorem writeFirst_emitNear (o : LineOrder) (s : State) : (writeFirst o s).emitNear = s.emitNear := by
  cases o <;> rfl
@[simp] theorem writeFirst_emitFar (o : LineOrder) (s : State) : (writeFirst o s).emitFar = s.emitFar := by
  cases o <;> rfl
@[simp] theorem writeFirst_running (o : LineOrder) (s : State) : (writeFirst o s).running = s.running := by
  cases o <;> rfl
@[simp] theorem writeFirst_fanMode (o : LineOrder) (s : State) : (writeFirst o s).fanMode = s.fanMode := by
  cases o <;> rfl
@[simp] theorem writeFirst_fanOn (o : LineOrder) (s : State) : (writeFirst o s).fanOn = s.fanOn := by
  cases o <;> rfl
@[simp] theorem writeFirst_debounce (o : LineOrder) (s : State) : (writeFirst o s).debounce = s.debounce := by
  cases o <;> rfl
@[simp] theorem writeFirst_lastFanCheck (o : LineOrder) (s : State) :
    (writeFirst o s).lastFanCheck = s.lastFanCheck := by
  cases o <;> rfl
@[simp] theorem writeFirst_snapNear (o : LineOrder) (s : State) : (writeFirst o s).snapNear = s.snapNear := by
  cases o <;> rfl
@[simp] theorem writeFirst_snapFar (o : LineOrder) (s : State) : (writeFirst o s).snapFar = s.snapFar := by
  cases o <;> rfl
@[simp] theorem writeFirst_snapAmb (o : LineOrder) (s : State) : (writeFirst o s).snapAmb = s.snapAmb := by
  cases o <;> rfl
@[simp] theorem writeFirst_snapTick (o : LineOrder) (s : State) : (writeFirst o s).snapTick = s.snapTick := by
  cases o <;> rfl
@[simp] theorem writeFirst_snapSig (o : LineOrder) (s : State) : (writeFirst o s).snapSig = s.snapSig := by
  cases o <;> rfl
@[simp] theorem writeFirst_snapRef (o : LineOrder) (s : State) : (writeFirst o s).snapRef = s.snapRef := by
  cases o <;> rfl
@[simp] theorem writeFirst_lstep (o : LineOrder) (s : State) : (writeFirst o s).lstep = s.lstep := by
  cases o <;> rfl
@[simp] theorem writeFirst_level (o : LineOrder) (s : State) : (writeFirst o s).level = s.level := by
  cases o <;> rfl
@[simp] theorem writeFirst_outA (o : LineOrder) (s : State) :
    (writeFirst o s).outA = if o = .aFirst then wantA s.level else s.outA := by
  cases o <;> rfl
@[simp] theorem writeFirst_outB (o : LineOrder) (s : State) :
    (writeFirst o s).outB = if o = .aFirst then s.outB else wantB s.level := by
  cases o <;> rfl
@[simp] theorem writeFirst_adc (o : LineOrder) (s : State) : (writeFirst o s).adc = s.adc := by
  cases o <;> rfl
@[simp] theorem writeFirst_modeSel (o : LineOrder) (s : State) : (writeFirst o s).modeSel = s.modeSel := by
  cases o <;> rfl
@[simp] theorem writeFirst_fanStrapHs (o : LineOrder) (s : State) :
    (writeFirst o s).fanStrapHs = s.fanStrapHs := by
  cases o <;> rfl
@[simp] theorem writeFirst_inputs (o : LineOrder) (s : State) : (writeFirst o s).inputs = s.inputs := by
  cases o <;> rfl
@[simp] theorem writeFirst_envDraws (o : LineOrder) (s : State) : (writeFirst o s).envDraws = s.envDraws := by
  cases o <;> rfl
@[simp] theorem writeFirst_orderDraws (o : LineOrder) (s : State) :
    (writeFirst o s).orderDraws = s.orderDraws := by
  cases o <;> rfl
@[simp] theorem writeFirst_obs (o : LineOrder) (s : State) :
    (writeFirst o s).obs = s.obs ++ [if o = .aFirst then .outA (wantA s.level) else .outB (wantB s.level)] := by
  cases o <;> rfl

/-! ### writeSecond -/

@[simp] theorem writeSecond_par (o : LineOrder) (s : State) : (writeSecond o s).par = s.par := by
  cases o <;> rfl
@[simp] theorem writeSecond_near (o : LineOrder) (s : State) : (writeSecond o s).near = s.near := by
  cases o <;> rfl
@[simp] theorem writeSecond_far (o : LineOrder) (s : State) : (writeSecond o s).far = s.far := by
  cases o <;> rfl
@[simp] theorem writeSecond_amb (o : LineOrder) (s : State) : (writeSecond o s).amb = s.amb := by
  cases o <;> rfl
@[simp] theorem writeSecond_fanSig (o : LineOrder) (s : State) : (writeSecond o s).fanSig = s.fanSig := by
  cases o <;> rfl
@[simp] theorem writeSecond_fanRef (o : LineOrder) (s : State) : (writeSecond o s).fanRef = s.fanRef := by
  cases o <;> rfl
@[simp] theorem writeSecond_tick (o : LineOrder) (s : State) : (writeSecond o s).tick = s.tick := by
  cases o <;> rfl
@[simp] theorem writeSecond_muxCfg (o : LineOrder) (s : State) : (writeSecond o s).muxCfg = s.muxCfg := by
  cases o <;> rfl
@[simp] theorem writeSecond_emitNear (o : LineOrder) (s : State) : (writeSecond o s).emitNear = s.emitNear := by
  cases o <;> rfl
@[simp] theorem writeSecond_emitFar (o : LineOrder) (s : State) : (writeSecond o s).emitFar = s.emitFar := by
  cases o <;> rfl
@[simp] theorem writeSecond_running (o : LineOrder) (s : State) : (writeSecond o s).running = s.running := by
  cases o <;> rfl
@[simp] theorem writeSecond_fanMode (o : LineOrder) (s : State) : (writeSecond o s).fanMode = s.fanMode := by
  cases o <;> rfl
@[simp] theorem writeSecond_fanOn (o : LineOrder) (s : State) : (writeSecond o s).fanOn = s.fanOn := by
  cases o <;> rfl
@[simp] theorem writeSecond_debounce (o : LineOrder) (s : State) : (writeSecond o s).debounce = s.debounce := by
  cases o <;> rfl
@[simp] theorem writeSecond_lastFanCheck (o : LineOrder) (s : State) :
    (writeSecond o s).lastFanCheck = s.lastFanCheck := by
  cases o <;> rfl
@[simp] theorem writeSecond_snapNear (o : LineOrder) (s : State) : (writeSecond o s).snapNear = s.snapNear := by
  cases o <;> rfl
@[simp] theorem writeSecond_snapFar (o : LineOrder) (s : State) : (writeSecond o s).snapFar = s.snapFar := by
  cases o <;> rfl
@[simp] theorem writeSecond_snapAmb (o : LineOrder) (s : State) : (writeSecond o s).snapAmb = s.snapAmb := by
  cases o <;> rfl
@[simp] theorem writeSecond_snapTick (o : LineOrder) (s : State) : (writeSecond o s).snapTick = s.snapTick := by
  cases o <;> rfl
@[simp] theorem writeSecond_snapSig (o : LineOrder) (s : State) : (writeSecond o s).snapSig = s.snapSig := by
  cases o <;> rfl
@[simp] theorem writeSecond_snapRef (o : LineOrder) (s : State) : (writeSecond o s).snapRef = s.snapRef := by
  cases o <;> rfl
@[simp] theorem writeSecond_lstep (o : LineOrder) (s : State) : (writeSecond o s).lstep = s.lstep := by
  cases o <;> rfl
@[simp] theorem writeSecond_level (o : LineOrder) (s : State) : (writeSecond o s).level = s.level := by
  cases o <;> rfl
@[simp] theorem writeSecond_outA (o : LineOrder) (s : State) :
    (writeSecond o s).outA = if o = .aFirst then s.outA else wantA s.level := by
  cases o <;> rfl
@[simp] theorem writeSecond_outB (o : LineOrder) (s : State) :
    (writeSecond o s).outB = if o = .aFirst then wantB s.level else s.outB := by
  cases o <;> rfl
@[simp] theorem writeSecond_adc (o : LineOrder) (s : State) : (writeSecond o s).adc = s.adc := by
  cases o <;> rfl
@[simp] theorem writeSecond_modeSel (o : LineOrder) (s : State) : (writeSecond o s).modeSel = s.modeSel := by
  cases o <;> rfl
@[simp] theorem writeSecond_fanStrapHs (o : LineOrder) (s : State) :
    (writeSecond o s).fanStrapHs = s.fanStrapHs := by
  cases o <;> rfl
@[simp] theorem writeSecond_inputs (o : LineOrder) (s : State) : (writeSecond o s).inputs = s.inputs := by
  cases o <;> rfl
@[simp] theorem writeSecond_envDraws (o : LineOrder) (s : State) : (writeSecond o s).envDraws = s.envDraws := by
  cases o <;> rfl
@[simp] theorem writeSecond_orderDraws (o : LineOrder) (s : State) :
    (writeSecond o s).orderDraws = s.orderDraws := by
  cases o <;> rfl
@[simp] theorem writeSecond_obs (o : LineOrder) (s : State) :
    (writeSecond o s).obs = s.obs ++ [if o = .aFirst then .outB (wantB s.level) else .outA (wantA s.level)] := by
  cases o <;> rfl

/-! ### fanCheck -/

@[simp] theorem fanCheck_par (p : Config.FanProfile) (n : Nat) (s : State) : (fanCheck p n s).par = s.par := by
  rw [fanCheck_eq]
@[simp] theorem fanCheck_near (p : Config.FanProfile) (n : Nat) (s : State) :
    (fanCheck p n s).near = s.near := by
  rw [fanCheck_eq]
@[simp] theorem fanCheck_far (p : Config.FanProfile) (n : Nat) (s : State) : (fanCheck p n s).far = s.far := by
  rw [fanCheck_eq]
@[simp] theorem fanCheck_amb (p : Config.FanProfile) (n : Nat) (s : State) : (fanCheck p n s).amb = s.amb := by
  rw [fanCheck_eq]
@[simp] theorem fanCheck_fanSig (p : Config.FanProfile) (n : Nat) (s : State) :
    (fanCheck p n s).fanSig = s.fanSig := by
  rw [fanCheck_eq]
@[simp] theorem fanCheck_fanRef (p : Config.FanProfile) (n : Nat) (s : State) :
    (fanCheck p n s).fanRef = s.fanRef := by
  rw [fanCheck_eq]
@[simp] theorem fanCheck_tick (p : Config.FanProfile) (n : Nat) (s : State) :
    (fanCheck p n s).tick = s.tick := by
  rw [fanCheck_eq]
@[simp] theorem fanCheck_muxCfg (p : Config.FanProfile) (n : Nat) (s : State) :
    (fanCheck p n s).muxCfg = s.muxCfg := by
  rw [fanCheck_eq]
@[simp] theorem fanCheck_emitNear (p : Config.FanProfile) (n : Nat) (s : State) :
    (fanCheck p n s).emitNear = s.emitNear := by
  rw [fanCheck_eq]
@[simp] theorem fanCheck_emitFar (p : Config.FanProfile) (n : Nat) (s : State) :
    (fanCheck p n s).emitFar = s.emitFar := by
  rw [fanCheck_eq]
@[simp] theorem fanCheck_running (p : Config.FanProfile) (n : Nat) (s : State) :
    (fanCheck p n s).running = s.running := by
  rw [fanCheck_eq]
@[simp] theorem fanCheck_fanMode (p : Config.FanProfile) (n : Nat) (s : State) :
    (fanCheck p n s).fanMode = s.fanMode := by
  rw [fanCheck_eq]
@[simp] theorem fanCheck_fanOn (p : Config.FanProfile) (n : Nat) (s : State) :
    (fanCheck p n s).fanOn = (fanNext p n s.fanSig.sum.toNat s.fanRef.sum.toNat s.fanOn s.debounce).1 := by
  rw [fanCheck_eq]
@[simp] theorem fanCheck_debounce (p : Config.FanProfile) (n : Nat) (s : State) :
    (fanCheck p n s).debounce = (fanNext p n s.fanSig.sum.toNat s.fanRef.sum.toNat s.fanOn s.debounce).2 := by
  rw [fanCheck_eq]
@[simp] theorem fanCheck_lastFanCheck (p : Config.FanProfile) (n : Nat) (s : State) :
    (fanCheck p n s).lastFanCheck = s.lastFanCheck := by
  rw [fanCheck_eq]
@[simp] theorem fanCheck_snapNear (p : Config.FanProfile) (n : Nat) (s : State) :
    (fanCheck p n s).snapNear = s.snapNear := by
  rw [fanCheck_eq]
@[simp] theorem fanCheck_snapFar (p : Config.FanProfile) (n : Nat) (s : State) :
    (fanCheck p n s).snapFar = s.snapFar := by
  rw [fanCheck_eq]
@[simp] theorem fanCheck_snapAmb (p : Config.FanProfile) (n : Nat) (s : State) :
    (fanCheck p n s).snapAmb = s.snapAmb := by
  rw [fanCheck_eq]
@[simp] theorem fanCheck_snapTick (p : Config.FanProfile) (n : Nat) (s : State) :
    (fanCheck p n s).snapTick = s.snapTick := by
  rw [fanCheck_eq]
@[simp] theorem fanCheck_snapSig (p : Config.FanProfile) (n : Nat) (s : State) :
    (fanCheck p n s).snapSig = s.fanSig.sum := by
  rw [fanCheck_eq]
@[simp] theorem fanCheck_snapRef (p : Config.FanProfile) (n : Nat) (s : State) :
    (fanCheck p n s).snapRef = s.fanRef.sum := by
  rw [fanCheck_eq]
@[simp] theorem fanCheck_lstep (p : Config.FanProfile) (n : Nat) (s : State) :
    (fanCheck p n s).lstep = s.lstep := by
  rw [fanCheck_eq]
@[simp] theorem fanCheck_level (p : Config.FanProfile) (n : Nat) (s : State) :
    (fanCheck p n s).level = s.level := by
  rw [fanCheck_eq]
@[simp] theorem fanCheck_outA (p : Config.FanProfile) (n : Nat) (s : State) :
    (fanCheck p n s).outA = s.outA := by
  rw [fanCheck_eq]
@[simp] theorem fanCheck_outB (p : Config.FanProfile) (n : Nat) (s : State) :
    (fanCheck p n s).outB = s.outB := by
  rw [fanCheck_eq]
@[simp] theorem fanCheck_adc (p : Config.FanProfile) (n : Nat) (s : State) : (fanCheck p n s).adc = s.adc := by
  rw [fanCheck_eq]
@[simp] theorem fanCheck_modeSel (p : Config.FanProfile) (n : Nat) (s : State) :
    (fanCheck p n s).modeSel = s.modeSel := by
  rw [fanCheck_eq]
@[simp] theorem fanCheck_fanStrapHs (p : Config.FanProfile) (n : Nat) (s : State) :
    (fanCheck p n s).fanStrapHs = s.fanStrapHs := by
  rw [fanCheck_eq]
@[simp] theorem fanCheck_inputs (p : Config.FanProfile) (n : Nat) (s : State) :
    (fanCheck p n s).inputs = s.inputs := by
  rw [fanCheck_eq]
@[simp] theorem fanCheck_envDraws (p : Config.FanProfile) (n : Nat) (s : State) :
    (fanCheck p n s).envDraws = s.envDraws := by
  rw [fanCheck_eq]
@[simp] theorem fanCheck_orderDraws (p : Config.FanProfile) (n : Nat) (s : State) :
    (fanCheck p n s).orderDraws = s.orderDraws := by
  rw [fanCheck_eq]

/-- A fan check adds one refresh to the record, after the write of `fanOn` if there is one. -/
theorem fanCheck_obs (p : Config.FanProfile) (n : Nat) (s : State) : ∃ o, kicks o = 0 ∧
    (fanCheck p n s).obs = s.obs ++ o ++ [.wdtKick] := by
  refine ⟨((fanControl p n s.fanSig.sum.toNat s.fanRef.sum.toNat s.fanOn s.debounce).fanOn.map Obs.fanOn).toList,
    ?_, by rw [fanCheck_eq]⟩
  cases (fanControl p n s.fanSig.sum.toNat s.fanRef.sum.toNat s.fanOn s.debounce).fanOn <;> rfl

/-! ### The steps -/

/-- What a LOOP step can write: the LOOP agent's own registers, the output lines, `fanOn`, the order draw and the
record. -/
theorem loopStep_frame {l : LStep} {s t : State} (h : exec l.instr s = .next t) : t = { s with
    fanOn := t.fanOn, debounce := t.debounce, lastFanCheck := t.lastFanCheck
    snapNear := t.snapNear, snapFar := t.snapFar, snapAmb := t.snapAmb, snapTick := t.snapTick
    snapSig := t.snapSig, snapRef := t.snapRef, lstep := t.lstep, level := t.level
    outA := t.outA, outB := t.outB, orderDraws := t.orderDraws, obs := t.obs } := by
  cases l with
  | ls0 => cases h; rfl
  | ls1 => cases h; rfl
  | ls2 =>
    cases h
    cases s.lineOrder <;> rfl
  | ls3 =>
    cases h
    cases s.lineOrder <;> rfl
  | ls4 => cases h; rfl
  | ls5 => cases h; rfl
  | ls6 =>
    cases h
    rw [fanCheck_eq]
    rfl

/-- What a TICK step can write: the filters, the scheduler's lines, `tick` and the record. -/
theorem tickStep_frame (s : State) : tickStep s = { s with
    near := (tickStep s).near, far := (tickStep s).far, amb := (tickStep s).amb
    fanSig := (tickStep s).fanSig, fanRef := (tickStep s).fanRef
    emitNear := (tickStep s).emitNear, emitFar := (tickStep s).emitFar, muxCfg := (tickStep s).muxCfg
    tick := (s.tick + 1) % s.par.tickRange, obs := (tickStep s).obs } := by
  unfold tickStep
  rw [performSlot_frame]
  rfl

/-- The step the LOOP agent takes next (44_mainloop.md R120). -/
theorem loopStep_lstep {l : LStep} {s t : State} (h : exec l.instr s = .next t) : t.lstep =
    match l with
    | .ls0 => .ls1
    | .ls1 => .ls2
    | .ls2 => .ls3
    | .ls3 => .ls4
    | .ls4 => .ls5
    | .ls5 => if gateFires s.par s.snapTick s.lastFanCheck then .ls6 else .ls0
    | .ls6 => .ls0 := by
  cases l <;> cases h <;> rfl

end Sys2Proof.Machine
end

