-- ==== Sys2Proof/Laws/PerInstr.lean ====
section
/-! SUPPORT. Statements made for each instruction, one lemma per constructor of Instr. -/

namespace Sys2Proof.Laws.EncodeFits

/-- An operation is well formed and its word has no bit above its format's width (30_encoding.md R56). -/
def Statement (i : Instr) : Prop := i.wf = true ∧ (encode i).toNat < 2 ^ i.format.width

theorem ph0Fan (b : Bool) : Statement (.ph0Fan b) := by unfold Statement; cases b <;> decide
theorem phAmb1 (b : Bool) : Statement (.phAmb1 b) := by unfold Statement; cases b <;> decide
theorem phFar2 (b : Bool) : Statement (.phFar2 b) := by unfold Statement; cases b <;> decide
theorem phNear3 (b : Bool) : Statement (.phNear3 b) := by unfold Statement; cases b <;> decide
theorem phAmb4 (b : Bool) : Statement (.phAmb4 b) := by unfold Statement; cases b <;> decide
theorem phFar5 (b : Bool) : Statement (.phFar5 b) := by unfold Statement; cases b <;> decide
theorem phNear6 (b : Bool) : Statement (.phNear6 b) := by unfold Statement; cases b <;> decide
theorem phAmb7 (b : Bool) : Statement (.phAmb7 b) := by unfold Statement; cases b <;> decide
theorem phFar8 (b : Bool) : Statement (.phFar8 b) := by unfold Statement; cases b <;> decide
theorem phNear9 (b : Bool) : Statement (.phNear9 b) := by unfold Statement; cases b <;> decide
theorem phAmb10 (b : Bool) : Statement (.phAmb10 b) := by unfold Statement; cases b <;> decide
theorem ph11FarMuxfan (b : Bool) : Statement (.ph11FarMuxfan b) := by unfold Statement; cases b <;> decide
theorem ph12Near (b : Bool) : Statement (.ph12Near b) := by unfold Statement; cases b <;> decide
theorem phDiscard13 (b : Bool) : Statement (.phDiscard13 b) := by unfold Statement; cases b <;> decide
theorem phDiscard14 (b : Bool) : Statement (.phDiscard14 b) := by unfold Statement; cases b <;> decide
theorem ph15Muxphoto (b : Bool) : Statement (.ph15Muxphoto b) := by unfold Statement; cases b <;> decide
theorem ls0Snap3 : Statement .ls0Snap3 := by unfold Statement; decide
theorem ls1Classify : Statement .ls1Classify := by unfold Statement; decide
theorem ls2Outw1 : Statement .ls2Outw1 := by unfold Statement; decide
theorem ls3Outw2 : Statement .ls3Outw2 := by unfold Statement; decide
theorem ls4Ticksnap : Statement .ls4Ticksnap := by unfold Statement; decide
theorem ls5Gate : Statement .ls5Gate := by unfold Statement; decide
theorem ls6Fancheck : Statement .ls6Fancheck := by unfold Statement; decide
theorem reset (hs : Bool) : Statement (.reset hs) := by unfold Statement; cases hs <;> decide
theorem start : Statement .start := by unfold Statement; decide
theorem tick (v : Reading) : Statement (.tick v) := by
  have h := v.isLt
  exact ⟨by simpa [Instr.wf] using Nat.le_of_lt_succ h, (encode (.tick v)).isLt⟩
theorem loop (m : Bool) : Statement (.loop m) := by unfold Statement; cases m <;> decide

end Sys2Proof.Laws.EncodeFits
end

