-- ==== Sys2Proof/Tests/Slice0.lean ====
section
/-! SUPPORT. The model's own tests. Expected values are the spec's: words written out from 30_encoding.md, and the
vectors of 95_test_vectors.md, named by their ids. Then the witnesses: for each statement with hypotheses, a concrete
state and operands that meet them. -/

namespace Sys2Proof.Tests

open Sys2Proof Sys2Proof.Machine

/-! ### Well-formedness: an ill-formed term for each check -/

theorem test_wf_route : ControlWord.routeOk 0b000000101 = false := by decide
theorem test_wf_far_set_and_clear : ControlWord.farOk 0b000011000 = false := by decide
theorem test_wf_near_set_and_clear : ControlWord.nearOk 0b001100000 = false := by decide
theorem test_wf_both_mux : ControlWord.muxOk 0b110000000 = false := by decide
theorem test_wf_control_refused : decodeControl 0b110000000 = .error .badControlWord := by decide
theorem test_wf_control_accepted : decodeControl 0x033 = .ok ⟨.amb, false, true, true, false, false, false⟩ := by decide
theorem test_wf_trace_first_reset : traceWf [0x1000, 0x0000] = false := by decide
theorem test_wf_trace_word : traceWf [0x0001, 0x4000] = false := by decide
theorem test_wf_trace_accepted : traceWf [0x0001, 0x1000, 0x2200] = true := by decide
theorem test_wf_tick_width : ({ (default : Config.Params) with tickW := 4 } : Config.Params).tickWOk = false := by decide
theorem test_wf_timer_freq : ({ (default : Config.Params) with timerFreq := 15 } : Config.Params).timerFreqOk = false := by
  decide
theorem test_wf_fan_interval :
    ({ (default : Config.Params) with tickW := 9, fanInterval := 256 } : Config.Params).fanIntervalOk = false := by decide
theorem test_wf_on_seconds : ({ (default : Config.Params) with onSeconds := 0 } : Config.Params).onSecondsOk = false := by
  decide
theorem test_wf_fan_check_freq :
    ({ (default : Config.Params) with fanCheckFreq := 0 } : Config.Params).fanCheckFreqOk = false := by decide
theorem test_wf_reading : TraceItem.wf (.tick 1024) = false := by decide
theorem test_wf_cycle16 : TraceItem.wf (.cycle16 [1, 2, 3]) = false := by decide

/-! ### Decoding: a word for each constructor (30_encoding.md R57, R64, R65) -/

theorem test_decode_slots_first_inner_cycle :
    [0b00000, 0b00001, 0b00010, 0b00011, 0b00100, 0b00101, 0b00110, 0b00111].map (decode .phase5) =
    [.ok (.ph0Fan false), .ok (.phAmb1 false), .ok (.phFar2 false), .ok (.phNear3 false),
     .ok (.phAmb4 false), .ok (.phFar5 false), .ok (.phNear6 false), .ok (.phAmb7 false)] := by decide
theorem test_decode_slots_second_inner_cycle :
    [0b11000, 0b11001, 0b11010, 0b11011, 0b11100, 0b11101, 0b11110, 0b11111].map (decode .phase5) =
    [.ok (.phFar8 true), .ok (.phNear9 true), .ok (.phAmb10 true), .ok (.ph11FarMuxfan true),
     .ok (.ph12Near true), .ok (.phDiscard13 true), .ok (.phDiscard14 true), .ok (.ph15Muxphoto true)] := by decide
theorem test_decode_loop_steps :
    [0b000, 0b001, 0b010, 0b011, 0b100, 0b101, 0b110, 0b111].map (decode .lstep3) =
    [.ok .ls0Snap3, .ok .ls1Classify, .ok .ls2Outw1, .ok .ls3Outw2, .ok .ls4Ticksnap, .ok .ls5Gate,
     .ok .ls6Fancheck, .error .unusedLstep] := by decide
theorem test_decode_events :
    [0b0000000000000001, 0b0001000000000000, 0b0010001111111111, 0b0011000000000001].map (decode .evt16) =
    [.ok (.reset true), .ok .start, .ok (.tick 1023), .ok (.loop true)] := by decide
theorem test_decode_malformed_events :
    [0x0002, 0x1001, 0x2400, 0x3002, 0x4000, 0xFFFF].map (decode .evt16) =
    [.error .nonzeroField, .error .nonzeroField, .error .nonzeroField, .error .nonzeroField,
     .error .reservedKind, .error .reservedKind] := by decide
theorem test_decode_too_wide : decode .phase5 32 = .error .tooWide ∧ decode .lstep3 8 = .error .tooWide := by decide
theorem test_table_words : decodeTableWord 8 0x0B = some (.ph11FarMuxfan false) ∧
    decodeTableWord 8 0x03 = some .ls3Outw2 ∧ decodeTableWord 8 0x13 = some (.phNear3 true) ∧
    decodeTableWord 16 0x2200 = some (.tick 512) ∧ decodeTableWord 16 0x5000 = none := by decide

/-! ### The trace notation (30_encoding.md R66, R67) -/

theorem test_parse_tick_hex : parseLine "TICK 0x200 ; comment".toList = .item (.tick 512) := by decide
theorem test_parse_default_mode : parseLine "LOOP".toList = .item (.loop true) := by decide
theorem test_parse_refused : parseLine "TICK 1024".toList = .malformed := by decide
theorem test_parse_blank : parseLine "  ; nothing".toList = .blank := by decide

/-! ### A small state, and what an operation leaves in it -/

/-- The test profile of L2-H. -/
def profile : Config.FanProfile := ⟨160, 4800, 8000⟩

/-- The parameters of the vectors and of L3-P1 and L3-P3: the defaults, the test profile, `ON_SECONDS` = 1 and
`FANREF_INIT` = 1000 ×16; the watchdog's period is this file's. -/
def par0 : Config.Params :=
  { onSeconds := 1, std := profile, hs := profile, fanrefInit := Vector.replicate 16 1000, wdtPeriod := 3 }

/-- A running state with filters of zeros and both emitters on, as the vectors L2-S start from. -/
def start0 : State :=
  { State.reset with par := par0, fanRef := SampleBuffer.zero 4, running := true, emitNear := true, emitFar := true }

/-- `start0` about to run a slot. -/
def at' (tick : Nat) (m : FanMode) (v : Reading) : State := { start0 with tick := tick, fanMode := m, adc := v }

/-- What a field is after an outcome. -/
def after {α : Type} (f : State → α) : Host.Outcome State Fault Refusal → Option α
  | .next t => some (f t)
  | .fault _ => none
  | .refused _ => none

/-- A filter's slots, index and sum, as the vectors write it. -/
def shownFilter {k : Nat} (f : SampleBuffer k) : List Nat × Nat × Nat :=
  (f.slot.toList.map BitVec.toNat, f.idx.toNat, f.sum.toNat)

/-- A depth-8 filter written out. -/
def buf8 (v : Vector Reading 8) (i : BitVec 3) (s : SumWord 3) : SampleBuffer 3 := ⟨v, i, s⟩

/-! ### Filters -/

theorem test_F2_update : shownFilter ((buf8 #v[1, 2, 3, 4, 5, 6, 7, 8] 3 36).update 100).1 =
    ([1, 2, 3, 100, 5, 6, 7, 8], 4, 132) ∧ ((buf8 #v[1, 2, 3, 4, 5, 6, 7, 8] 3 36).update 100).2 = 4 := by decide
theorem test_F3_index_wraps : shownFilter ((buf8 #v[1, 2, 3, 4, 5, 6, 7, 8] 7 36).update 0).1 =
    ([1, 2, 3, 4, 5, 6, 7, 0], 0, 28) := by decide
theorem test_F4_maximum_sum : (((buf8 (Vector.replicate 8 1023) 2 8184).update 1023).1.idx,
    ((buf8 (Vector.replicate 8 1023) 2 8184).update 1023).1.sum) = (3, 8184) := by decide
theorem test_F6_depth16_wraps : (((⟨Vector.replicate 16 1023, 15, 16368⟩ : SampleBuffer 4).update 1).1.idx,
    ((⟨Vector.replicate 16 1023, 15, 16368⟩ : SampleBuffer 4).update 1).1.sum) = (0, 15346) := by decide

/-! ### Slots -/

theorem test_S2_fan_std_ignores_outer_bit : after (fun t => (t.fanSig.sum, t.fanRef.sum, t.emitFar, t.tick))
    (exec (.ph0Fan true) (at' 16 .std 700)) = some (700, 0, true, 17) := by decide
theorem test_S4_fan_hs_reference : after (fun t => (t.fanSig.sum, t.fanRef.sum, t.fanRef.idx, t.tick))
    (exec (.ph0Fan true) (at' 48 .hs 763)) = some (0, 763, 1, 49) := by decide
theorem test_S5_ambient : after (fun t => (t.amb.sum, t.emitFar, t.emitNear, t.tick))
    (exec (.phAmb1 false) (at' 1 .std 2)) = some (2, false, true, 2) := by decide
theorem test_ambient4 : after (fun t => (t.amb.sum, t.emitFar, t.emitNear))
    (exec (.phAmb4 false) (at' 4 .std 2)) = some (2, false, true) := by decide
theorem test_ambient7 : after (fun t => (t.amb.sum, t.emitFar, t.emitNear))
    (exec (.phAmb7 false) (at' 7 .std 2)) = some (2, false, true) := by decide
theorem test_S8_ambient10 : after (fun t => (t.amb.sum, t.emitFar, t.emitNear, t.tick))
    (exec (.phAmb10 true) (at' 26 .hs 1023)) = some (1023, false, true, 27) := by decide
theorem test_S6_far : after (fun t => (t.far.sum, t.emitNear, t.emitFar, t.tick))
    (exec (.phFar2 false) (at' 2 .std 12)) = some (12, false, true, 3) := by decide
theorem test_far5 : after (fun t => (t.far.sum, t.emitNear, t.emitFar))
    (exec (.phFar5 false) (at' 5 .std 12)) = some (12, false, true) := by decide
theorem test_S20_far8 : after (fun t => (t.far.sum, t.emitNear, t.tick))
    (exec (.tick 7) (at' 1000 .std 0)) = some (7, false, 1001) := by decide
theorem test_S7_near : after (fun t => (t.near.sum, t.emitFar, t.emitNear, t.tick))
    (exec (.phNear3 false) (at' 3 .std 40)) = some (40, true, true, 4) := by decide
theorem test_near6 : after (fun t => (t.near.sum, t.emitFar)) (exec (.phNear6 false) (at' 6 .std 40)) =
    some (40, true) := by decide
theorem test_near9 : after (fun t => (t.near.sum, t.emitFar)) (exec (.phNear9 false) (at' 9 .std 40)) =
    some (40, true) := by decide
theorem test_S10_mux_std : after (fun t => (t.far.sum, t.emitNear, t.muxCfg, t.tick))
    (exec (.ph11FarMuxfan true) (at' 27 .std 12)) = some (12, false, .fanStd, 28) := by decide
theorem test_S11_S12_mux_hs : (after State.muxCfg (exec (.ph11FarMuxfan false) (at' 11 .hs 12)),
    after State.muxCfg (exec (.ph11FarMuxfan true) (at' 27 .hs 12))) = (some .fanHsRef, some .fanHsSig) := by decide
theorem test_S13_near_without_line : after (fun t => (t.near.sum, t.emitNear, t.emitFar, t.tick))
    (exec (.ph12Near false) (at' 12 .std 40)) = some (40, true, true, 13) := by decide
theorem test_S14_discard : after (fun t => (t.near.sum, t.far.sum, t.amb.sum, t.fanSig.sum, t.tick))
    (exec (.phDiscard13 false) (at' 13 .std 999)) = some (0, 0, 0, 0, 14) := by decide
theorem test_S15_discard : after (fun t => (t.near.sum, t.far.sum, t.amb.sum, t.fanSig.sum, t.tick))
    (exec (.phDiscard14 false) (at' 14 .std 999)) = some (0, 0, 0, 0, 15) := by decide
theorem test_S17_tick_wraps : after (fun t => (t.muxCfg, t.tick))
    (exec (.tick 0) { at' 65535 .hs 0 with muxCfg := .fanHsSig }) = some (.photo, 0) := by decide
theorem test_S18_not_running : after (fun t => (t.near.sum, t.emitFar, t.tick))
    (exec (.tick 40) { at' 3 .std 0 with running := false }) = some (0, true, 4) := by decide

/-! ### Classifier and encoder -/

theorem test_classifier_vectors :
    [classify 6960 0 0 true, classify 6959 6959 0 true, classify 0 6960 0 false, classify 7000 100 7000 true,
     classify 6959 0 8184 true, classify 239 0 0 false, classify 240 0 0 false, classify 500 300 261 false,
     classify 81 80 0 true, classify 67 80 0 true, classify 66 80 0 true, classify 1000 79 0 true,
     classify 75 90 0 true, classify 74 90 0 true, classify 366 380 300 true] =
    [.saturated, .approaching, .saturated, .saturated,
     .off, .off, .on, .off,
     .on, .approaching, .off, .off,
     .approaching, .off, .off] := by decide
theorem test_snapshot : after (fun t => (t.snapNear, t.snapFar, t.snapAmb, t.lstep)) (exec .ls0Snap3
    { start0 with near := buf8 #v[300, 0, 0, 0, 0, 0, 0, 0] 1 300, far := buf8 #v[100, 0, 0, 0, 0, 0, 0, 0] 1 100 }) =
    some (300, 100, 0, .ls1) := by decide
theorem test_classify_step : after (fun t => (t.level, t.lstep)) (exec .ls1Classify
    { start0 with snapNear := 300, snapFar := 100, modeSel := true }) = some (.on, .ls2) := by decide
theorem test_E4_first_write : after (fun t => (t.outA, t.outB))
    (.next (writeFirst .aFirst { start0 with level := .on, outA := true })) = some (false, false) := by decide
theorem test_E5_first_write : after (fun t => (t.outA, t.outB))
    (.next (writeFirst .bFirst { start0 with level := .on, outA := true })) = some (true, true) := by decide
theorem test_E4_second_write : after (fun t => (t.outA, t.outB))
    (.next (writeSecond .aFirst { start0 with level := .on })) = some (false, true) := by decide
theorem test_E6_E5_line_write_steps :
    (after (fun t => (t.outA, t.outB, t.lstep)) (exec .ls2Outw1
      { start0 with par := { par0 with outOrder := .aFirst }, level := .approaching, outB := true }),
     after (fun t => (t.outA, t.outB, t.lstep)) (exec .ls3Outw2
      { start0 with par := { par0 with outOrder := .bFirst }, level := .on, outA := true, outB := true })) =
    (some (true, true, .ls3), some (false, true, .ls4)) := by decide

/-! ### Fan controller, gate and marker -/

theorem test_H_fan_off :
    [fanNext profile 15 1000 16000 false 0, fanNext profile 15 8001 16000 false 0, fanNext profile 15 8000 16000 false 0,
     fanNext profile 15 16000 16000 false 0, fanNext profile 15 15841 16000 false 0,
     fanNext profile 15 15840 16000 false 0, fanNext profile 15 16368 0 false 0] =
    [(true, 15), (false, 0), (true, 15), (true, 15), (true, 15), (false, 0), (true, 15)] := by decide
theorem test_H_fan_on :
    [fanNext profile 15 14400 16000 true 15, fanNext profile 15 14400 16000 true 0, fanNext profile 15 11200 16000 true 7,
     fanNext profile 15 11199 16000 true 7, fanNext profile 15 15840 16000 true 7, fanNext profile 15 15841 16000 true 7,
     fanNext profile 15 16368 16000 true 0, fanNext profile 15 1000 16000 true 0] =
    [(true, 14), (false, 0), (true, 6), (true, 7), (true, 6), (true, 7), (true, 0), (true, 0)] := by decide
theorem test_H1_fan_check : after (fun t => (t.fanOn, t.debounce, t.snapSig, t.snapRef, kicks t.obs))
    (.next (fanCheck profile 15 { start0 with
      fanSig := ⟨Vector.replicate 16 0, 0, 1000⟩, fanRef := ⟨Vector.replicate 16 0, 0, 16000⟩ })) =
    some (true, 15, 1000, 16000, 1) := by decide
theorem test_G6_H4_fan_check_step : after (fun t => (t.lastFanCheck, t.lstep, t.fanOn, t.debounce)) (exec .ls6Fancheck
    { start0 with lastFanCheck := 65300 }) = some (264, .ls0, true, 15) := by decide
theorem test_fan_check_records_a_change_only : after State.obs (exec .ls6Fancheck { start0 with fanOn := true }) =
    some [.wdtKick] ∧ after State.obs (exec .ls6Fancheck start0) = some [.fanOn true, .wdtKick] := by decide
theorem test_tick_snapshot : after (fun t => (t.snapTick, t.lstep)) (exec .ls4Ticksnap (at' 501 .std 0)) =
    some (501, .ls5) := by decide
theorem test_G_gate :
    [(500, 0), (501, 0), (0, 0), (10, 65300), (300, 65300), (0, 65036), (1, 65036)].map
      (fun x : Nat × Nat => after State.lstep (exec .ls5Gate
        { start0 with snapTick := x.1, lastFanCheck := x.2 })) =
    [some .ls0, some .ls6, some .ls0, some .ls0, some .ls6, some .ls0, some .ls6] := by decide
theorem test_G9_G10_interval16 : [32, 16].map (fun n : Nat => after State.lstep (exec .ls5Gate
    { start0 with par := { par0 with fanInterval := 16 }, snapTick := n })) = [some .ls6, some .ls0] := by decide
theorem test_P4_interval : ({ par0 with timerFreq := 256, fanInterval := 256 / 16 } : Config.Params).fanInterval = 16 ∧
    ({ onSeconds := 1, std := profile, hs := profile, fanrefInit := Vector.replicate 16 1000, wdtPeriod := 3,
       timerFreq := 256 } : Config.Params).fanInterval = 16 := by decide

/-! ### Events and the step -/

theorem test_R2_reset : after (fun t => (t.running, t.fanMode, t.tick, t.emitNear, t.near.sum, t.debounce))
    (exec (.reset true) { start0 with tick := 1040, debounce := 9 }) = some (false, .hs, 0, false, 0, 0) := by decide
theorem test_R1_reset_loads_the_baseline : after (fun t => (t.fanMode, t.fanRef.sum, t.obs.length))
    (exec (.reset false) { start0 with obs := [.wdtKick] }) = some (.std, 16000, 7) := by decide
theorem test_R3_start : after State.running (exec .start { start0 with running := false }) = some true := by decide
theorem test_R4_loop_while_disabled : after (fun t => (t.lstep, t.snapNear, t.modeSel)) (exec (.loop false)
    { start0 with running := false }) = some (.ls0, 0, true) := by decide
theorem test_loop_takes_the_named_step : after State.lstep (exec (.loop true) { start0 with lstep := .ls4 }) =
    some .ls5 := by decide
theorem test_step_takes_the_first_event : after (fun t => (t.tick, t.inputs)) (step
    { start0 with inputs := [0x2005, 0x3001] }) = some (1, [0x3001]) := by decide
theorem test_placed_word_runs : after State.muxCfg (step (State.reset.withFetchWord 8 0x0B)) = some .fanStd := by decide
theorem test_tick_wraps_at_its_width : after State.tick (exec (.tick 0)
    { start0 with par := { par0 with tickW := 12 }, tick := 4095 }) = some 0 := by decide
theorem test_watchdog_resets_after_its_period : after (fun t => (t.tick, t.running))
    (runWatched [.tick 1, .tick 2, .tick 3] 0 start0) = some (0, false) := by decide
theorem test_watchdog_waits_within_its_period : after (fun t => (t.tick, t.running))
    (runWatched [.tick 1, .tick 2] 0 start0) = some (2, true) := by decide

/-! ### Witnesses: states and operands that meet the hypotheses of the statements

Each theorem names the statement it is for. An event is queued where a statement is about `step`. -/

/-- A running state of zeros with the lines as phase 15 leaves them. -/
def calm : State := { start0 with emitNear := false, emitFar := false }

/-- `calm` with one event queued. -/
def queued (w : EventWord) : State := { calm with inputs := [w] }

theorem calm_filters : FiltersWf calm := ⟨zero_wf 3, zero_wf 3, zero_wf 3, zero_wf 4, zero_wf 4⟩

theorem test_witness_SlotMapDecodesEveryPhase :
    (∃ b : Bool, ∃ o : BitVec 5, o = if b then 16 else 0) ∧
    (∃ p : BitVec 4, 1 ≤ p.toNat ∧ p.toNat ≤ 12 ∧ p.toNat % 3 = 1) ∧
    (∃ p : BitVec 4, p.toNat ≤ 12 ∧ p.toNat = 11 ∧ p.toNat % 3 = 2) ∧
    (∃ p : BitVec 4, p.toNat ≤ 12 ∧ p.toNat = 12 ∧ p.toNat % 3 = 0) :=
  ⟨⟨true, 16, by decide⟩, ⟨1, by decide⟩, ⟨11, by decide⟩, ⟨12, by decide⟩⟩
theorem test_witness_DecodeOfEncode : Instr.wf (.tick 1023) = true := by decide
theorem test_witness_EncodeOfDecode : decode .phase5 31 = .ok (.ph15Muxphoto true) ∧
    decode .lstep3 6 = .ok .ls6Fancheck ∧ decode .evt16 0x23FF = .ok (.tick 1023) := by decide
theorem test_witness_MalformedEventsAreRefused :
    (queued 0x2400).inputs = 0x2400 :: [] ∧ ¬ ∃ i, decodeEvt16 0x2400 = .ok i :=
  ⟨rfl, fun ⟨i, h⟩ => by
    have e : decodeEvt16 0x2400 = .error .nonzeroField := by decide
    rw [e] at h; cases h⟩
theorem test_witness_StepRunsTheNextEvent :
    ((queued 0x2005).inputs = 0x2005 :: [] ∧ decodeEvt16 0x2005 = .ok (.tick 5)) ∧ calm.inputs = [] := by decide
theorem test_witness_LoopRunsTheDecodedStep : calm.running = true ∧ State.reset.running = false := by decide
theorem test_witness_PlacedTableWordRuns : decodeTableWord 8 0x1F = some (.ph15Muxphoto true) ∧
    decodeTableWord 8 0x06 = some .ls6Fancheck ∧ decodeTableWord 3 0x0 = some .ls0Snap3 ∧
    decodeTableWord 5 0x00 = some (.ph0Fan false) ∧ decodeTableWord 16 0x3001 = some (.loop true) := by decide
theorem test_witness_NoOperationStops : ∀ w rest, (queued 0x1000).inputs = w :: rest → ∃ i, decodeEvt16 w = .ok i := by
  intro w rest h
  have : w = 0x1000 := by simp [queued] at h; exact h.1.symm
  exact ⟨.start, by rw [this]; decide⟩
theorem test_witness_FilterUpdateRule : (SampleBuffer.zero 3).Wf ∧ (1 : BitVec 3) ≠ (SampleBuffer.zero 3).idx :=
  ⟨zero_wf 3, by decide⟩
theorem test_witness_FilterWindowSum : (SampleBuffer.zero 3).Wf ∧ 2 ^ 3 ≤ ([1, 2, 3, 4, 5, 6, 7, 8] : List Reading).length ∧
    ([1, 2, 3, 4, 5, 6, 7, 8] : List Reading).length ≤ 2 ^ 3 := ⟨zero_wf 3, by decide, by decide⟩
theorem test_witness_FilterInvariantAlways : FiltersWf (queued 0x2005) ∧ ∃ t, step (queued 0x2005) = .next t :=
  ⟨⟨zero_wf 3, zero_wf 3, zero_wf 3, zero_wf 4, zero_wf 4⟩, _, rfl⟩
theorem test_witness_FanSlotRule : 0 % 32 = 0 ∧ 0xFFF0 % 32 = 16 ∧
    Instr.format (.ph0Fan true) = .phase5 ∧ calm.fanMode = .std ∧ (∃ t, exec (.ph0Fan true) calm = .next t) ∧
    LinesFollowPhase calm ∧ phaseOf (selectorOf calm.tick) = 0 :=
  ⟨by decide, by decide, by decide, by decide, ⟨_, rfl⟩, ⟨by decide, by decide, by decide⟩, by decide⟩
theorem test_witness_NearSlotRule : ∃ b : Bool, ∃ o : BitVec 5, (o = if b then 16 else 0) ∧
    Instr.phNear9 b ∈ [Instr.phNear3 b, .phNear6 b, .phNear9 b] := ⟨true, 16, by decide⟩
theorem test_witness_AmbientSlotRule : ∃ b : Bool, ∃ o : BitVec 5, (o = if b then 16 else 0) ∧
    Instr.phAmb10 b ∈ [Instr.phAmb1 b, .phAmb4 b, .phAmb7 b, .phAmb10 b] := ⟨false, 0, by decide⟩
theorem test_witness_FarSlotRule : ∃ b : Bool, ∃ o : BitVec 5, (o = if b then 16 else 0) ∧
    Instr.phFar8 b ∈ [Instr.phFar2 b, .phFar5 b, .phFar8 b] := ⟨false, 0, by decide⟩
theorem test_witness_FarSlotRule_lines : LinesFollowPhase { calm with tick := 2, emitNear := true } ∧
    slotClass (phaseOf (selectorOf 2)) = .phFar := ⟨⟨by decide, by decide, by decide⟩, by decide⟩
theorem test_witness_NearNoLineSlotRule : LinesFollowPhase { calm with tick := 28, muxCfg := .fanStd } ∧
    phaseOf (selectorOf 28) = 12 := ⟨⟨by decide, by decide, by decide⟩, by decide⟩
theorem test_witness_DiscardSlotRule : ∃ b : Bool, ∃ o : BitVec 5, (o = if b then 16 else 0) ∧
    Instr.phDiscard14 b ∈ [Instr.phDiscard13 b, .phDiscard14 b] := ⟨true, 16, by decide⟩
theorem test_witness_OperationsRecordTheirWrites : ((∀ v, Instr.reset true ≠ .tick v) ∧
    (∀ m, Instr.reset true ≠ .loop m) ∧ ∃ t, exec (.reset true) calm = .next t) ∧
    (∃ t, exec (.tick 5) calm = .next t) ∧ (∃ t, exec (.loop true) calm = .next t) :=
  ⟨⟨fun _ h => (by cases h), fun _ h => (by cases h), _, rfl⟩, ⟨_, rfl⟩, ⟨_, rfl⟩⟩
theorem test_witness_RunningGatesOnlyTheFilters : ∃ t u, Instr.format (.ph11FarMuxfan true) = .phase5 ∧
    State.reset.running = false ∧ exec (.ph11FarMuxfan true) State.reset = .next t ∧
    exec (.ph11FarMuxfan true) { State.reset with running := true } = .next u := ⟨_, _, rfl, rfl, rfl, rfl⟩

theorem calm_lines : LinesFollowPhase calm := ⟨by decide, by decide, by decide⟩

theorem test_witness_LinesFollowThePhase : (queued 0x2005).par.wf = true ∧ LinesFollowPhase (queued 0x2005) ∧ ∃ t, step (queued 0x2005) = .next t :=
  ⟨by decide, ⟨by decide, by decide, by decide⟩, _, rfl⟩
theorem test_witness_EmittersNeverTogether : LinesFollowPhase calm ∧
    11 ≤ (phaseOf (selectorOf calm.tick - 1)).toNat := ⟨calm_lines, by decide⟩
theorem test_witness_SixteenTicksRouteFourEach : ∃ t, calm.par.wf = true ∧ calm.running = true ∧
    (List.replicate 16 (5 : Reading)).length = 16 ∧
    runEvents ((List.replicate 16 (5 : Reading)).map .tick) calm = .next t := ⟨_, by decide, rfl, rfl, rfl⟩
theorem test_witness_ThirtyTwoTicksRefreshTheSums : ∃ t, calm.par.wf = true ∧ FiltersWf calm ∧ calm.running = true ∧
    (List.replicate 32 (5 : Reading)).length = 32 ∧
    runEvents ((List.replicate 32 (5 : Reading)).map .tick) calm = .next t := ⟨_, by decide, calm_filters, rfl, rfl, rfl⟩
theorem test_witness_ClassifierProperties : (240 : Nat) ≤ 241 ∧ (6959 < 6960 ∧ 379 - 300 < 80 ∧ 379 < 6960) ∧
    (6960 ≤ 6960 ∨ 6960 ≤ 0) ∧ ∃ t u, exec .ls1Classify calm = .next t ∧ exec .ls1Classify t = .next u :=
  ⟨by decide, by decide, by decide, _, _, rfl, rfl⟩
theorem test_witness_ModeSelectReadOnlyByClassify :
    (∃ t u, exec (.loop true) calm = .next t ∧ exec (.loop false) calm = .next u ∧ calm.lstep ≠ .ls1) ∧
    (∃ t u, exec (.loop true) { calm with lstep := .ls1, snapNear := 6960 } = .next t ∧
      exec (.loop false) { calm with lstep := .ls1, snapNear := 6960 } = .next u ∧
      6960 ≤ (6960 : SumWord 3).toNat) :=
  ⟨⟨_, _, rfl, rfl, by decide⟩, ⟨_, _, rfl, rfl, by decide⟩⟩
theorem test_witness_LinesEncodeTheLevel :
    (LinesEncodeLevel (queued 0x3001) ∧ ∃ t, step (queued 0x3001) = .next t) ∧
    LinesEncodeLevel { queued 0x3001 with lstep := .ls3, level := .saturated, outA := true, outB := true } :=
  ⟨⟨⟨fun _ _ => ⟨rfl, rfl⟩, fun h => absurd h (by decide), fun h => absurd h (by decide)⟩, _, rfl⟩,
    ⟨fun _ h => absurd rfl h, fun _ _ => rfl, fun _ _ => rfl⟩⟩
theorem test_witness_IntermediateLineStates : ∃ t, calm.outA = wantA .off ∧ calm.outB = wantB .off ∧
    exec .ls2Outw1 calm = .next t := ⟨_, rfl, rfl, rfl⟩
theorem test_witness_FanCheckWhileOn : ∃ (p : Config.FanProfile) (diff : Nat),
    ({ calm with fanOn := true } : State).fanOn = true ∧ p = calm.par.profile calm.fanMode ∧
    diff = calm.fanRef.sum.toNat - calm.fanSig.sum.toNat := ⟨_, _, rfl, rfl, rfl⟩
theorem test_witness_FanCheckWhileOff : ∃ (p : Config.FanProfile) (diff : Nat), calm.fanOn = false ∧
    p = calm.par.profile calm.fanMode ∧ diff = calm.fanRef.sum.toNat - calm.fanSig.sum.toNat := ⟨_, _, rfl, rfl, rfl⟩
theorem test_witness_HysteresisBand : 0 < profile.connThr ∧ profile.connThr ≤ profile.offThr ∧
    profile.offThr < profile.onThr ∧ profile.offThr < fanDiff 11199 16000 ∧ fanDiff 11199 16000 < profile.onThr := by
  decide
theorem test_witness_FanStateStaysLegal : FanStateLegal (queued 0x3001) ∧ ∃ t, step (queued 0x3001) = .next t :=
  ⟨⟨Nat.zero_le _, fun _ => rfl⟩, _, rfl⟩
theorem test_witness_DisconnectedForcesFanOn : ∃ sig ref conn, sig = calm.fanSig.sum.toNat ∧
    ref = calm.fanRef.sum.toNat ∧ conn = (calm.par.profile calm.fanMode).connThr ∧
    (ref - sig < conn ∨ (ref ≤ sig ∧ (calm.fanOn = false ∨ 0 < conn))) :=
  ⟨_, _, _, rfl, rfl, rfl, .inr ⟨by decide, .inl rfl⟩⟩
theorem test_witness_MinimumOnTime :
    (∃ t, calm.par.wf = true ∧ calm.fanOn = false ∧ exec .ls6Fancheck calm = .next t ∧ t.fanOn = true) ∧
    (∃ t, (∀ e ∈ [Event.loop true, .tick 5], isResetEvent e = false) ∧
      runEvents [.loop true, .tick 5] { calm with fanOn := true, debounce := 3 } = .next t ∧
      kicks t.obs ≤ kicks calm.obs + 3) :=
  ⟨⟨_, by decide, rfl, rfl, rfl⟩, ⟨_, by decide, rfl, by decide⟩⟩
theorem test_witness_KicksOnlyFromFanChecks : (∃ t, exec .ls6Fancheck calm = .next t) ∧
    ∃ t, exec (.reset true) calm = .next t := ⟨⟨_, rfl⟩, ⟨_, rfl⟩⟩
theorem test_witness_ElapsedIsTheTrueDifference : (65535 : Nat) < 2 ^ 16 := by decide
theorem test_witness_MarkerCountsTheChecks : (∃ t, exec (.reset true) calm = .next t) ∧
    (∀ hs, (fetch (queued 0x3001)).1 ≠ .ok (.reset hs)) ∧ MarkerCountsChecks 0 (queued 0x3001) ∧
    ∃ t, step (queued 0x3001) = .next t := ⟨⟨_, rfl⟩, by decide, ⟨0, rfl, rfl⟩, _, rfl⟩
theorem test_witness_TickCountsStayInRange : TickCountsInRange { queued 0x2005 with tick := 65535 } ∧
    ∃ t, step { queued 0x2005 with tick := 65535 } = .next t := ⟨⟨by decide, by decide, by decide⟩, _, rfl⟩
theorem test_witness_StandardModeKeepsTheBaseline : StdBaseline { State.reset with inputs := [0x2005] } ∧
    ∃ t, step { State.reset with inputs := [0x2005] } = .next t := ⟨fun _ => rfl, _, rfl⟩
theorem test_witness_IterationReturnsToStart : calm.running = true ∧ calm.lstep = .ls0 ∧ 0 < 3 ∧ 3 < iterLength calm ∧
    ∃ u, runEvents (List.replicate 3 (.loop true)) calm = .next u := ⟨rfl, rfl, by decide, by decide, _, rfl⟩
theorem test_witness_ResetForgetsEverything : ∃ t t', calm.par = (at' 65535 .std 7).par ∧ exec (.reset true) calm = .next t ∧
    exec (.reset true) (at' 65535 .std 7) = .next t' := ⟨_, _, rfl, rfl, rfl⟩
theorem test_witness_IdleLoopStandsAtStart : LoopIdle { State.reset with inputs := [0x3001] } ∧
    ∃ t, step { State.reset with inputs := [0x3001] } = .next t := ⟨fun _ => rfl, _, rfl⟩
theorem test_witness_EachRegisterHasOneWriter : (∃ t, exec (.tick 5) calm = .next t) ∧ (∃ v, Instr.tick 5 = .tick v) ∧
    (∃ t, exec .ls0Snap3 calm = .next t) ∧ Instr.format .ls0Snap3 = .lstep3 := ⟨⟨_, rfl⟩, ⟨5, rfl⟩, ⟨_, rfl⟩, rfl⟩
theorem test_witness_TickAgentIgnoresTheLoop : ∃ t u, runEvents [.tick 5, .loop true, .tick 6] calm = .next t ∧
    runEvents ([.tick 5, .loop true, .tick 6].filter fun e => !isLoopEvent e) calm = .next u := ⟨_, _, rfl, rfl⟩
theorem test_witness_TickCommutesWithPrivateLoopSteps : ∃ t u, ({ calm with lstep := .ls5 } : State).lstep = .ls5 ∧
    runEvents [.tick 5, .loop true] { calm with lstep := .ls5 } = .next t ∧
    runEvents [.loop true, .tick 5] { calm with lstep := .ls5 } = .next u := ⟨_, _, rfl, rfl, rfl⟩

end Sys2Proof.Tests
end

section
/-! PROOFS. The filter invariant of 10_state.md rule R12 along every step. Only a slot of a `TICK` writes filters, and
it does so by `State.accumulate`; a `RESET` makes them anew; every other operation leaves all five as they are. -/

namespace Sys2Proof.Machine

/-- The invariant reads the five filters and nothing else: a state with the same filters meets it too. For an operation
that writes no filter the five equations hold by computation, and need not be given. -/
theorem FiltersWf.of_filters_eq {s t : State} (h : FiltersWf s)
    (near_eq : t.near = s.near := by rfl) (far_eq : t.far = s.far := by rfl) (amb_eq : t.amb = s.amb := by rfl)
    (fanSig_eq : t.fanSig = s.fanSig := by rfl) (fanRef_eq : t.fanRef = s.fanRef := by rfl) : FiltersWf t where
  near := near_eq ▸ h.near
  far := far_eq ▸ h.far
  amb := amb_eq ▸ h.amb
  fanSig := fanSig_eq ▸ h.fanSig
  fanRef := fanRef_eq ▸ h.fanRef

/-! ### Reset -/

theorem reset_filtersWf : FiltersWf State.reset :=
  ⟨zero_wf 3, zero_wf 3, zero_wf 3, zero_wf 4, ofSlots_wf (k := 4) Config.params.fanrefInit⟩

/-- A reset makes every filter anew, so the invariant holds after it whatever stood there (10_state.md R14). -/
theorem raiseReset_filtersWf (s : State) : FiltersWf s.raiseReset :=
  ⟨zero_wf 3, zero_wf 3, zero_wf 3, zero_wf 4, ofSlots_wf (k := 4) s.par.fanrefInit⟩

/-! ### The two agents -/

/-- A slot updates at most one filter, by `State.accumulate`; the rest of what it writes is lines and the record
(41_scheduler.md R80 to R87). -/
theorem performSlot_filtersWf (b : Bool) (c : SlotClass) {s : State} (h : FiltersWf s) :
    FiltersWf (performSlot b c s) := by
  have acc (f : BufId) : FiltersWf (s.accumulate f) := accumulate_wf f s h
  cases c
  case ph0Fan => exact (acc (fanFilter s.fanMode b)).of_filters_eq
  case phAmb => exact (acc .amb).of_filters_eq
  case phFar => exact (acc .far).of_filters_eq
  case phNear => exact (acc .near).of_filters_eq
  case ph11FarMuxfan => exact (acc .far).of_filters_eq
  case ph12Near => exact acc .near
  case phDiscard => exact h
  case ph15Muxphoto => exact h.of_filters_eq

theorem tickStep_filtersWf {s : State} (h : FiltersWf s) : FiltersWf (tickStep s) :=
  (performSlot_filtersWf (outerOf (selectorOf s.tick)) (slotClass (phaseOf (selectorOf s.tick))) h).of_filters_eq

/-- A step of the LOOP agent writes no filter. -/
theorem loopStep_filtersWf {l : LStep} {s t : State} (h : FiltersWf s) (ht : exec l.instr s = .next t) :
    FiltersWf t := by
  rw [loopStep_frame ht]
  exact h.of_filters_eq

/-! ### Every step -/

theorem execEvent_filtersWf {e : Event} {s t : State} (h : FiltersWf s) (ht : exec e.instr s = .next t) :
    FiltersWf t := by
  cases e with
  | reset hs =>
    cases ht
    exact raiseReset_filtersWf (s.withStrap hs)
  | start =>
    cases ht
    exact h.of_filters_eq
  | tick v =>
    cases ht
    have hadc : FiltersWf (s.withAdc v) := h.of_filters_eq
    exact tickStep_filtersWf hadc
  | loop m =>
    obtain ⟨-, rfl⟩ | ⟨-, hl⟩ := execLoop_cases ht
    · exact h
    · have hmode : FiltersWf (s.withModeSel m) := h.of_filters_eq
      exact loopStep_filtersWf hmode hl

/-- Taking the next event touches no filter, so a step keeps the invariant as its event does. -/
theorem step_filtersWf {s t : State} (h : FiltersWf s) (ht : step s = .next t) : FiltersWf t := by
  obtain ⟨e, u, hu, hexec⟩ := step_next ht
  have hfetch : FiltersWf u := by
    rw [hu]
    exact h.of_filters_eq
  exact execEvent_filtersWf hfetch hexec

/-- Settles O15: the invariant holds at reset and every step keeps it (10_state.md R12); an index is below the depth by
the width of its register. -/
theorem filterInvariantAlways : Obligations.FilterInvariantAlways :=
  ⟨reset_filtersWf, fun _ _ => step_filtersWf,
    fun s => ⟨s.near.idx.isLt, s.far.idx.isLt, s.amb.idx.isLt, s.fanSig.idx.isLt, s.fanRef.idx.isLt⟩⟩

end Sys2Proof.Machine
end

section
/-! PROOFS. The slot map of 30_encoding.md rule R57. Adding a phase to the outer bit's value leaves the two fields of the
selector apart, so every row of the decoder is reached with the operand `b`; the pattern of the phases 1 to 12 is the
table of slot classes, read by the remainder of the phase modulo 3. -/

namespace Sys2Proof

/-! ### The fields of a selector made of `b` and a phase -/

/-- The outer bit's value is a multiple of 16, so it does not reach bits 3:0, even where the sum wraps. -/
theorem phaseOf_outer_add (b : Bool) (n : BitVec 5) : phaseOf ((if b then 16 else 0) + n) = n.setWidth 4 := by
  apply BitVec.eq_of_toNat_eq
  rw [phaseOf, BitVec.extractLsb'_toNat]
  cases b <;> simp

/-- A phase is below 16, so no carry reaches bit 4. -/
theorem outerOf_outer_add (b : Bool) {n : BitVec 5} (hn : n.toNat < 16) :
    outerOf ((if b then 16 else 0) + n) = b := by
  have bit4 (m : BitVec 5) : m.getLsbD 4 = decide (16 ≤ m.toNat) := m.msb_eq_decide
  rw [outerOf, bit4]
  cases b <;> simp <;> bv_omega

/-! ### The slot classes by the remainder modulo 3 -/

section
variable {p : BitVec 4} (le : p.toNat ≤ 12)
include le

theorem slotClass_of_mod_three_eq_one (h : p.toNat % 3 = 1) : slotClass p = .phAmb := by
  have cases_p : p.toNat = 1 ∨ p.toNat = 4 ∨ p.toNat = 7 ∨ p.toNat = 10 := by omega
  rcases cases_p with hp | hp | hp | hp <;> simp [slotClass, hp]

theorem slotClass_of_mod_three_eq_two (h : p.toNat % 3 = 2) :
    slotClass p = .phFar ∨ slotClass p = .ph11FarMuxfan := by
  have cases_p : p.toNat = 2 ∨ p.toNat = 5 ∨ p.toNat = 8 ∨ p.toNat = 11 := by omega
  rcases cases_p with hp | hp | hp | hp <;> simp [slotClass, hp]

theorem slotClass_of_mod_three_eq_zero (pos : 1 ≤ p.toNat) (h : p.toNat % 3 = 0) :
    slotClass p = .phNear ∨ slotClass p = .ph12Near := by
  have cases_p : p.toNat = 3 ∨ p.toNat = 6 ∨ p.toNat = 9 ∨ p.toNat = 12 := by omega
  rcases cases_p with hp | hp | hp | hp <;> simp [slotClass, hp]

end

/-- Settles O2: the fields of the selector `o + p` are `b` and `p`, so each phase decodes to its row; the classes follow
by the remainder modulo 3. -/
theorem slotMapDecodesEveryPhase : Obligations.SlotMapDecodesEveryPhase := by
  refine ⟨?rows, fun p pos le => ⟨slotClass_of_mod_three_eq_one le, slotClass_of_mod_three_eq_two le,
    slotClass_of_mod_three_eq_zero le pos⟩⟩
  case rows =>
    rintro b o rfl
    simp (disch := decide) only [decodePhase5, phaseOf_outer_add, outerOf_outer_add]
    simp

end Sys2Proof
end

section
/-! PROOFS. The slots of the scheduler (41_scheduler.md rules R80, R81, R83, R85 to R87). A slot's step is its update of
one filter, said once for every buffer by `accumulate_eq`, then its line writes, then the advance of `tick`, so the
whole state after it is written out by one equation per slot. What the lines are before a slot is read off
`LinesFollowPhase` at the phase before. -/

namespace Sys2Proof.Machine

/-! ### The conditional update -/

/-- The update of a slot, every field of the state after it written out: it writes the one filter `b` names, and that
only with `running` set (41_scheduler.md R77). -/
theorem accumulate_eq (b : BufId) (s : State) : s.accumulate b = { s with
    near := if s.running = true ∧ b = .near then (s.near.update s.adc).1 else s.near
    far := if s.running = true ∧ b = .far then (s.far.update s.adc).1 else s.far
    amb := if s.running = true ∧ b = .amb then (s.amb.update s.adc).1 else s.amb
    fanSig := if s.running = true ∧ b = .fanSig then (s.fanSig.update s.adc).1 else s.fanSig
    fanRef := if s.running = true ∧ b = .fanRef then (s.fanRef.update s.adc).1 else s.fanRef } := by
  rw [State.accumulate]
  split
  case isTrue running =>
    cases b <;> simp [State.filterUpdate, running]
  case isFalse idle =>
    have none_updated (p : Prop) : ¬ (s.running = true ∧ p) := fun h => idle h.1
    simp only [none_updated, if_false]

/-- Only high-sensitivity mode has a second fan filter, and only in the cycles with `b` set (30_encoding.md R58). -/
theorem fanFilter_eq (m : FanMode) (b : Bool) :
    fanFilter m b = if m = .hs ∧ b = true then .fanRef else .fanSig := by
  cases m <;> cases b <;> rfl

/-! ### The step of a slot -/

theorem advanceTick_slotPh0Fan (b : Bool) (s : State) : (slotPh0Fan b s).advanceTick = { s with
    fanRef := if s.running = true ∧ s.fanMode = .hs ∧ b = true then (s.fanRef.update s.adc).1 else s.fanRef
    fanSig := if s.running = true ∧ ¬ (s.fanMode = .hs ∧ b = true) then (s.fanSig.update s.adc).1 else s.fanSig
    emitFar := true
    tick := (s.tick + 1) % 2 ^ s.par.tickW
    obs := s.obs ++ [.emitFar s.tick true] } := by
  rw [slotPh0Fan, fanFilter_eq, accumulate_eq]
  by_cases h : s.fanMode = .hs ∧ b = true <;>
    simp [h, State.writeEmitFar, State.advanceTick, Config.Params.tickRange]

theorem advanceTick_slotPhNear (s : State) : (slotPhNear s).advanceTick = { s with
    near := if s.running then (s.near.update s.adc).1 else s.near
    emitFar := true
    tick := (s.tick + 1) % 2 ^ s.par.tickW
    obs := s.obs ++ [.emitFar s.tick true] } := by
  simp [slotPhNear, accumulate_eq, State.writeEmitFar, State.advanceTick, Config.Params.tickRange]

theorem advanceTick_slotPhFar (s : State) : (slotPhFar s).advanceTick = { s with
    far := if s.running then (s.far.update s.adc).1 else s.far
    emitNear := false
    tick := (s.tick + 1) % 2 ^ s.par.tickW
    obs := s.obs ++ [.emitNear s.tick false] } := by
  simp [slotPhFar, accumulate_eq, State.writeEmitNear, State.advanceTick, Config.Params.tickRange]

theorem advanceTick_slotPh12Near (s : State) : (slotPh12Near s).advanceTick = { s with
    near := if s.running then (s.near.update s.adc).1 else s.near
    tick := (s.tick + 1) % 2 ^ s.par.tickW } := by
  simp [slotPh12Near, accumulate_eq, State.advanceTick, Config.Params.tickRange]

/-- An operation of the schedule is the slot of its class, then the advance of `tick` (41_scheduler.md R75, R78). -/
theorem exec_phase5 {i : Instr} (h : i.format = .phase5) :
    ∃ (b : Bool) (c : SlotClass), ∀ s : State, exec i s = .next (performSlot b c s).advanceTick := by
  cases i with
  | ph0Fan b => exact ⟨b, .ph0Fan, fun _ => rfl⟩
  | phAmb1 b | phAmb4 b | phAmb7 b | phAmb10 b => exact ⟨b, .phAmb, fun _ => rfl⟩
  | phFar2 b | phFar5 b | phFar8 b => exact ⟨b, .phFar, fun _ => rfl⟩
  | phNear3 b | phNear6 b | phNear9 b => exact ⟨b, .phNear, fun _ => rfl⟩
  | ph11FarMuxfan b => exact ⟨b, .ph11FarMuxfan, fun _ => rfl⟩
  | ph12Near b => exact ⟨b, .ph12Near, fun _ => rfl⟩
  | phDiscard13 b | phDiscard14 b => exact ⟨b, .phDiscard, fun _ => rfl⟩
  | ph15Muxphoto b => exact ⟨b, .ph15Muxphoto, fun _ => rfl⟩
  | _ => cases h

/-- Only the fan slot can name `FANREF`, and in standard mode it names `FANSIG` (41_scheduler.md R80). -/
theorem performSlot_fanRef_of_std {s : State} (std : s.fanMode = .std) (b : Bool) (c : SlotClass) :
    (performSlot b c s).fanRef = s.fanRef := by
  cases c
  case ph0Fan => simp [performSlot, slotPh0Fan, std, fanFilter_eq]
  case phAmb => simp [performSlot, slotPhAmb]
  case phFar => simp [performSlot, slotPhFar]
  case phNear => simp [performSlot, slotPhNear]
  case ph11FarMuxfan => simp [performSlot, slotPh11FarMuxfan]
  case ph12Near => simp [performSlot, slotPh12Near]
  case phDiscard => rfl
  case ph15Muxphoto => rfl

theorem exec_phase5_fanRef_of_std {i : Instr} {s t : State} (format : i.format = .phase5) (std : s.fanMode = .std)
    (ht : exec i s = .next t) : t.fanRef = s.fanRef := by
  obtain ⟨b, c, hexec⟩ := exec_phase5 format
  cases (hexec s).symm.trans ht
  exact performSlot_fanRef_of_std std b c

/-! ### Selectors and phases -/

/-- The selector of a tick count is its value modulo 32 (30_encoding.md R56). -/
theorem selectorOf_eq_ofNat_mod (t : Nat) : selectorOf t = BitVec.ofNat 5 (t % 32) := by
  apply BitVec.eq_of_toNat_eq
  simp [selectorOf]

/-- The phase before, modulo 16: a borrow out of bits 3:0 only changes bit 4. -/
theorem phaseOf_sub_one (sel : BitVec 5) : phaseOf (sel - 1) = phaseOf sel - 1 := by
  apply BitVec.eq_of_toNat_eq
  simp only [phaseOf, BitVec.toNat_sub, BitVec.extractLsb'_toNat, Nat.shiftRight_zero]
  bv_omega

/-- The phases of the far slots (30_encoding.md R57). -/
theorem phase_of_slotClass_phFar : ∀ {p : BitVec 4}, slotClass p = .phFar → p = 2 ∨ p = 5 ∨ p = 8 := by decide

/-! ### The lines before a slot -/

section
variable {s : State} (lines : LinesFollowPhase s)
include lines

theorem emitNear_eq_nearLit : s.emitNear = nearLit (phaseOf (selectorOf s.tick) - 1).toNat := by
  rw [lines.emitNear, phaseOf_sub_one]

theorem emitFar_eq_farLit : s.emitFar = farLit (phaseOf (selectorOf s.tick) - 1).toNat := by
  rw [lines.emitFar, phaseOf_sub_one]

/-- Phase 15 leaves the near emitter off (41_scheduler.md R88). -/
theorem emitNear_off_before_phase_zero (h : phaseOf (selectorOf s.tick) = 0) : s.emitNear = false := by
  rw [emitNear_eq_nearLit lines, h]
  rfl

/-- An ambient phase stands before each far slot, and leaves the far emitter off (41_scheduler.md R88). -/
theorem emitFar_off_before_phFar (h : slotClass (phaseOf (selectorOf s.tick)) = .phFar) : s.emitFar = false := by
  rw [emitFar_eq_farLit lines]
  obtain hp | hp | hp := phase_of_slotClass_phFar h <;> rw [hp] <;> rfl

/-- Phase 11 leaves both emitters off (41_scheduler.md R88). -/
theorem emitters_off_before_phase_twelve (h : phaseOf (selectorOf s.tick) = 12) :
    s.emitNear = false ∧ s.emitFar = false := by
  rw [emitNear_eq_nearLit lines, emitFar_eq_farLit lines, h]
  exact ⟨rfl, rfl⟩

end

/-! ### The rules -/

/-- Settles O16: the tick counts have the selectors 0 and 16; the step is written out, and in standard mode no slot of
the schedule names `FANREF`. -/
theorem fanSlotRule : Obligations.FanSlotRule := by
  refine ⟨fun t => ⟨fun h => ?first_cycle, fun h => ?second_cycle⟩, fun b s => ?step,
    fun _ _ _ => exec_phase5_fanRef_of_std, fun _ => emitNear_off_before_phase_zero⟩
  case first_cycle =>
    rw [selectorOf_eq_ofNat_mod, h]
    rfl
  case second_cycle =>
    rw [selectorOf_eq_ofNat_mod, h]
    rfl
  case step => exact ⟨_, congrArg Host.Outcome.next (advanceTick_slotPh0Fan b s)⟩

/-- Settles O17: the three rows are one slot, whose step is written out. -/
theorem nearSlotRule : Obligations.NearSlotRule := by
  intro b o ho
  obtain ⟨-, -, -, row3, -, -, row6, -, -, row9, -⟩ := slotMapDecodesEveryPhase.1 b o ho
  refine ⟨row3, row6, row9, fun i hi s => ?_⟩
  have hexec : exec i s = .next (slotPhNear s).advanceTick := by
    simp only [List.mem_cons, List.not_mem_nil, or_false] at hi
    obtain rfl | rfl | rfl := hi <;> rfl
  exact ⟨_, hexec.trans (congrArg Host.Outcome.next (advanceTick_slotPhNear s))⟩

/-- Settles O19: the three rows are one slot, whose step is written out; the phase before each is an ambient one. -/
theorem farSlotRule : Obligations.FarSlotRule := by
  refine ⟨fun b o ho => ?rows, fun _ => emitFar_off_before_phFar⟩
  case rows =>
    obtain ⟨-, -, row2, -, -, row5, -, -, row8, -⟩ := slotMapDecodesEveryPhase.1 b o ho
    refine ⟨row2, row5, row8, fun i hi s => ?_⟩
    have hexec : exec i s = .next (slotPhFar s).advanceTick := by
      simp only [List.mem_cons, List.not_mem_nil, or_false] at hi
      obtain rfl | rfl | rfl := hi <;> rfl
    exact ⟨_, hexec.trans (congrArg Host.Outcome.next (advanceTick_slotPhFar s))⟩

/-- Settles O21: the two words are rows of the decoder; the step is written out, and the phase before is 11. -/
theorem nearNoLineSlotRule : Obligations.NearNoLineSlotRule :=
  ⟨rfl, rfl, fun _ s => congrArg Host.Outcome.next (advanceTick_slotPh12Near s),
    fun _ => emitters_off_before_phase_twelve⟩

/-- Settles O22: the slot is the identity, so the step is the advance of `tick` alone. -/
theorem discardSlotRule : Obligations.DiscardSlotRule := by
  intro b o ho
  obtain ⟨-, -, -, -, -, -, -, -, -, -, -, -, -, row13, row14, -⟩ := slotMapDecodesEveryPhase.1 b o ho
  refine ⟨row13, row14, fun i hi s => ?_⟩
  simp only [List.mem_cons, List.not_mem_nil, or_false] at hi
  obtain rfl | rfl := hi <;> rfl

/-- Settles O23: the slot is one write of `muxCfg`, which reads neither `running` nor the reading. -/
theorem muxPhotoSlotRule : Obligations.MuxPhotoSlotRule :=
  ⟨rfl, rfl, fun _ _ => ⟨_, rfl⟩⟩

end Sys2Proof.Machine
end

section
/-! PROOFS. The classifier (42_classifier.md rules R97 to R101 and R105). The subtraction and the thresholds are said once
in numerals, then `classify` is one equation per mode; each property of R105 is read off the equation of its mode. -/

namespace Sys2Proof.Machine

/-! ### The conditions in numerals -/

/-- The clamped difference is the difference of natural numbers (00_scope.md R7). -/
@[simp] theorem satsub_eq_sub (a b : Nat) : satsub a b = a - b := by
  rw [satsub]
  split
  case isTrue => rfl
  case isFalse lt => omega

theorem saturated_iff (near far : Nat) : saturated near far = true ↔ 6960 ≤ near ∨ 6960 ≤ far := by
  rw [saturated, Bool.or_eq_true, decide_eq_true_iff, decide_eq_true_iff]
  rfl

theorem simpleLevel_eq (adjNear : Nat) : simpleLevel adjNear = if 240 ≤ adjNear then .on else .off := rfl

theorem differentialLevel_eq (adjNear adjFar : Nat) : differentialLevel adjNear adjFar =
    if adjFar < adjNear ∧ 80 ≤ adjFar then .on
    else if 80 ≤ adjFar ∧ 5 * adjFar ≤ 6 * adjNear then .approaching
    else .off := by
  rw [Nat.mul_comm 5, Nat.mul_comm 6]
  rfl

/-! ### One equation per mode -/

theorem classify_of_saturated {near far : Nat} (sat : 6960 ≤ near ∨ 6960 ≤ far) (amb : Nat) (mode : Bool) :
    classify near far amb mode = .saturated :=
  if_pos ((saturated_iff near far).mpr sat)

theorem classify_simple {near far : Nat} (unsat : ¬ (6960 ≤ near ∨ 6960 ≤ far)) (amb : Nat) :
    classify near far amb false = simpleLevel (near - amb) := by
  rw [← saturated_iff] at unsat
  rw [classify, if_neg unsat, satsub_eq_sub]

theorem classify_differential {near far : Nat} (unsat : ¬ (6960 ≤ near ∨ 6960 ≤ far)) (amb : Nat) :
    classify near far amb true = differentialLevel (near - amb) (far - amb) := by
  rw [← saturated_iff] at unsat
  rw [classify, if_neg unsat, satsub_eq_sub, satsub_eq_sub]

/-! ### What the levels of each mode do -/

theorem simpleLevel_ne_approaching (adjNear : Nat) : simpleLevel adjNear ≠ .approaching := by
  rw [simpleLevel_eq]
  split <;> decide

/-- The far threshold guards both levels above `Off` (42_classifier.md R100). -/
theorem differentialLevel_of_far_lt {adjFar : Nat} (below : adjFar < 80) (adjNear : Nat) :
    differentialLevel adjNear adjFar = .off := by
  have not_thr : ¬ 80 ≤ adjFar := Nat.not_le.mpr below
  rw [differentialLevel_eq, if_neg fun h => not_thr h.2, if_neg fun h => not_thr h.1]

/-! ### The order of the levels, by their codes (30_encoding.md R63) -/

theorem code_toNat_le_saturated (l : Level) : l.code.toNat ≤ Level.saturated.code.toNat := by
  cases l <;> decide

theorem simpleLevel_code_mono {n n' : Nat} (le : n ≤ n') :
    (simpleLevel n).code.toNat ≤ (simpleLevel n').code.toNat := by
  rw [simpleLevel_eq n]
  split
  case isTrue on => rw [simpleLevel_eq, if_pos (on.trans le)]
  case isFalse => exact Nat.zero_le _

/-- The conditions of `On` and of `Approaching` each survive a larger near sum, so the level only moves to an earlier
branch of the rule, and `Off` has the least code. -/
theorem differentialLevel_code_mono {n n' : Nat} (le : n ≤ n') (adjFar : Nat) :
    (differentialLevel n adjFar).code.toNat ≤ (differentialLevel n' adjFar).code.toNat := by
  rw [differentialLevel_eq n]
  split
  case isTrue on => rw [differentialLevel_eq, if_pos ⟨on.1.trans_le le, on.2⟩]
  case isFalse =>
    split
    case isTrue approaching =>
      have still_approaching : 80 ≤ adjFar ∧ 5 * adjFar ≤ 6 * n' :=
        ⟨approaching.1, approaching.2.trans (Nat.mul_le_mul_left 6 le)⟩
      rw [differentialLevel_eq, if_pos still_approaching]
      split <;> decide
    case isFalse => exact Nat.zero_le _

/-- A larger near sum either saturates, which is the greatest level, or leaves both sums in the same mode's rule. -/
theorem classify_code_mono {near near' : Nat} (le : near ≤ near') (far amb : Nat) (mode : Bool) :
    (classify near far amb mode).code.toNat ≤ (classify near' far amb mode).code.toNat := by
  by_cases sat' : 6960 ≤ near' ∨ 6960 ≤ far
  · rw [classify_of_saturated sat']
    exact code_toNat_le_saturated _
  · have unsat : ¬ (6960 ≤ near ∨ 6960 ≤ far) := fun sat => sat' (sat.imp_left le.trans')
    have adj_le : near - amb ≤ near' - amb := Nat.sub_le_sub_right le amb
    cases mode with
    | false =>
      rw [classify_simple unsat, classify_simple sat']
      exact simpleLevel_code_mono adj_le
    | true =>
      rw [classify_differential unsat, classify_differential sat']
      exact differentialLevel_code_mono adj_le (far - amb)

/-! ### The obligations -/

/-- Settles O32: the order and the two modes by the lemmas above; `LS1` writes none of the snapshot and `mode_sel`, so
its second run classifies what its first did. -/
theorem classifierProperties : Obligations.ClassifierProperties := by
  refine ⟨fun _ _ far amb mode le => classify_code_mono le far amb mode, fun near far amb => ?simple,
    fun near far amb near_lt adj_far_lt far_lt => ?below_far_threshold, fun near far amb amb' mode sat => ?saturated,
    fun s t u ht hu => ?run_twice⟩
  case simple =>
    by_cases sat : 6960 ≤ near ∨ 6960 ≤ far
    · rw [classify_of_saturated sat]
      decide
    · rw [classify_simple sat]
      exact simpleLevel_ne_approaching _
  case below_far_threshold =>
    rw [classify_differential (by omega), differentialLevel_of_far_lt adj_far_lt]
  case saturated => rw [classify_of_saturated sat, classify_of_saturated sat]
  case run_twice =>
    cases ht
    cases hu
    rfl

/-- Settles O31: saturation first, then the equation of each mode; the worked cases that fix every sum evaluate, the two
in simple mode hold for every far sum below saturation. -/
theorem classifyRule : Obligations.ClassifyRule := by
  refine ⟨fun near far amb mode => ?whole, by decide, by decide, by decide, by decide, fun far far_lt => ?near_200,
    fun far far_lt => ?near_260⟩
  case whole =>
    split
    case isTrue sat => exact classify_of_saturated sat amb mode
    case isFalse unsat =>
      cases mode with
      | false => exact classify_simple unsat amb
      | true => exact (classify_differential unsat amb).trans (differentialLevel_eq _ _)
  case near_200 =>
    rw [classify_simple (by omega)]
    decide
  case near_260 =>
    rw [classify_simple (by omega)]
    decide

end Sys2Proof.Machine
end

section
/-! PROOFS. The watchdog refreshes (43_fan.md rule R115). A record's refreshes add up over its parts, so an operation's
kicks are those of what it appends: none for a slot's lines, the encoder's lines and a reset, one for a fan check. -/

namespace Sys2Proof.Machine

/-! ### Counting refreshes -/

@[simp] theorem kicks_append (o o' : List Obs) : kicks (o ++ o') = kicks o + kicks o' := List.count_append

@[simp] theorem kicks_nil : kicks [] = 0 := rfl

@[simp] theorem kicks_cons (e : Obs) (o : List Obs) : kicks (e :: o) = kicks o + if e = .wdtKick then 1 else 0 := by
  simp [kicks, List.count_cons]

/-! ### The scheduler and the reset -/

/-- A slot's update writes no record, and what it records after that is line writes (41_scheduler.md R80 to R87). -/
@[simp] theorem performSlot_kicks (b : Bool) (c : SlotClass) (s : State) :
    kicks (performSlot b c s).obs = kicks s.obs := by
  cases c
  case ph0Fan => simp [performSlot, slotPh0Fan]
  case phAmb => simp [performSlot, slotPhAmb]
  case phFar => simp [performSlot, slotPhFar]
  case phNear => simp [performSlot, slotPhNear]
  case ph11FarMuxfan => simp [performSlot, slotPh11FarMuxfan]
  case ph12Near => simp [performSlot, slotPh12Near]
  case phDiscard => rfl
  case ph15Muxphoto => simp [performSlot, slotPh15Muxphoto]

@[simp] theorem tickStep_kicks (s : State) : kicks (tickStep s).obs = kicks s.obs := by simp [tickStep]

theorem exec_phase5_kicks {i : Instr} {s t : State} (format : i.format = .phase5) (ht : exec i s = .next t) :
    kicks t.obs = kicks s.obs := by
  obtain ⟨b, c, hexec⟩ := exec_phase5 format
  cases (hexec s).symm.trans ht
  exact performSlot_kicks b c s

@[simp] theorem resetWrites_kicks (tick : Nat) : kicks (resetWrites tick) = 0 := rfl

@[simp] theorem raiseReset_kicks (s : State) : kicks s.raiseReset.obs = kicks s.obs := by simp [raiseReset_eq]

/-! ### The LOOP agent -/

@[simp] theorem writeFirst_kicks (o : LineOrder) (s : State) : kicks (writeFirst o s).obs = kicks s.obs := by
  cases o <;> simp

@[simp] theorem writeSecond_kicks (o : LineOrder) (s : State) : kicks (writeSecond o s).obs = kicks s.obs := by
  cases o <;> simp

/-- The refresh comes after the branches of the check, so it is there whichever was taken (43_fan.md R115). -/
@[simp] theorem fanCheck_kicks (p : Config.FanProfile) (reload : Nat) (s : State) :
    kicks (fanCheck p reload s).obs = kicks s.obs + 1 := by
  obtain ⟨o, no_kick, obs_eq⟩ := fanCheck_obs p reload s
  simp [obs_eq, no_kick]

/-- Of the seven steps only the fan check refreshes the watchdog. -/
theorem loopStep_kicks {l : LStep} {s t : State} (ht : exec l.instr s = .next t) :
    kicks t.obs = kicks s.obs + if l = .ls6 then 1 else 0 := by
  cases l <;> cases ht
  case ls0 | ls1 | ls4 | ls5 => rfl
  case ls2 => exact writeFirst_kicks s.lineOrder s
  case ls3 => exact writeSecond_kicks s.lineOrder s
  case ls6 => exact fanCheck_kicks (s.par.profile s.fanMode) s.par.debounceReload s

/-- A `LOOP` event runs the step `lstep` names, and only with `running` set (44_mainloop.md R120, R121). -/
theorem exec_loop_kicks {m : Bool} {s t : State} (ht : exec (.loop m) s = .next t) :
    kicks t.obs = kicks s.obs + if s.running = true ∧ s.lstep = .ls6 then 1 else 0 := by
  obtain ⟨idle, rfl⟩ | ⟨running, hl⟩ := execLoop_cases ht
  · simp [idle]
  · simpa [running] using loopStep_kicks hl

/-! ### The obligation -/

/-- Settles O45: a `LOOP` event and each row of `LSTEP3` by the lemmas on the LOOP agent; the events `RESET`, `START`
and `TICK` and every row of `PHASE5` append no refresh. -/
theorem kicksOnlyFromFanChecks : Obligations.KicksOnlyFromFanChecks := by
  intro i s t ht
  cases i with
  | ls0Snap3 => exact loopStep_kicks (l := .ls0) ht
  | ls1Classify => exact loopStep_kicks (l := .ls1) ht
  | ls2Outw1 => exact loopStep_kicks (l := .ls2) ht
  | ls3Outw2 => exact loopStep_kicks (l := .ls3) ht
  | ls4Ticksnap => exact loopStep_kicks (l := .ls4) ht
  | ls5Gate => exact loopStep_kicks (l := .ls5) ht
  | ls6Fancheck => exact loopStep_kicks (l := .ls6) ht
  | reset hs =>
    cases ht
    exact raiseReset_kicks (s.withStrap hs)
  | start =>
    cases ht
    rfl
  | tick v =>
    cases ht
    exact tickStep_kicks (s.withAdc v)
  | loop m => exact exec_loop_kicks ht
  | _ => exact exec_phase5_kicks rfl ht

end Sys2Proof.Machine
end

section
/-! PROOFS. The round trips of the three formats (30_encoding.md rules R56 to R59, R64, R65). A format is settled by one
pair of facts: its decoder gives back the operation of an encoded word, and a word it accepts is the word of what it
reads. For `EVT16` both are one equivalence with the words of the four events, which also says which words are events. -/

namespace Sys2Proof

/-! ### The fields of an event word, as numbers -/

theorem evtKind_toNat (w : EventWord) : (w.extractLsb' 12 4).toNat = w.toNat / 4096 := by
  rw [BitVec.extractLsb'_toNat, Nat.shiftRight_eq_div_pow]
  exact Nat.mod_eq_of_lt (by omega)

/-- A field of bits is zero exactly if the number it holds is (30_encoding.md R59). -/
theorem extractLsb'_eq_zero_iff (w : EventWord) (start len : Nat) :
    w.extractLsb' start len = 0 ↔ w.toNat / 2 ^ start % 2 ^ len = 0 := by
  rw [← BitVec.toNat_inj, BitVec.extractLsb'_toNat, Nat.shiftRight_eq_div_pow]
  rfl

theorem toNat_getLsbD_zero (w : EventWord) : (w.getLsbD 0).toNat = w.toNat % 2 := by
  rw [BitVec.getLsbD, Nat.testBit_zero]
  by_cases odd : w.toNat % 2 = 1
  · simp [odd]
  · simp [odd]
    omega

/-! ### The words of the events -/

theorem resetWord_toNat (hs : Bool) : (Event.reset hs).word.toNat = hs.toNat := by cases hs <;> rfl

theorem startWord_toNat : Event.start.word.toNat = 0x1000 := rfl

/-- The kind stands above the reading, so the word is their sum. -/
theorem tickWord_toNat (v : Reading) : (Event.tick v).word.toNat = 0x2000 + v.toNat := by
  have below : v.toNat < 2 ^ 13 := v.isLt.trans (by decide)
  have kept : v.toNat % 2 ^ 16 = v.toNat := Nat.mod_eq_of_lt (v.isLt.trans (by decide))
  calc (Event.tick v).word.toNat
    _ = (0x2000 : BitVec 16).toNat ||| (v.setWidth 16).toNat := BitVec.toNat_or _ _
    _ = 2 ^ 13 * 1 ||| v.toNat := by rw [BitVec.toNat_setWidth, kept]; rfl
    _ = 0x2000 + v.toNat := (Nat.two_pow_add_eq_or_of_lt below 1).symm

theorem loopWord_toNat (m : Bool) : (Event.loop m).word.toNat = 0x3000 + m.toNat := by cases m <;> rfl

/-- A reading is all of bits 9:0, so the kind and the zero field above it are its word's own. -/
theorem decodeEvt16_tick_word (v : Reading) : decodeEvt16 (Event.tick v).word = .ok (.tick v) := by
  have word := tickWord_toNat v
  have lt := v.isLt
  have kind : ((Event.tick v).word.extractLsb' 12 4).toNat = 2 := by
    rw [evtKind_toNat, word]
    omega
  have zero : (Event.tick v).word.extractLsb' 10 2 = 0 := by
    rw [extractLsb'_eq_zero_iff, word]
    omega
  have reading : (Event.tick v).word.extractLsb' 0 10 = v := by
    apply BitVec.eq_of_toNat_eq
    rw [BitVec.extractLsb'_toNat, Nat.shiftRight_zero, word]
    omega
  simp only [decodeEvt16, kind, zero, reading, if_true]

theorem decodeEvt16_word (e : Event) : decodeEvt16 e.word = .ok e.instr := by
  cases e with
  | reset hs => cases hs <;> decide
  | start => decide
  | tick v => exact decodeEvt16_tick_word v
  | loop m => cases m <;> decide

/-- The kind and the zero fields leave no bit of an accepted word free but its operand's. -/
theorem word_of_decodeEvt16 {w : EventWord} {i : Instr} (h : decodeEvt16 w = .ok i) :
    ∃ e : Event, i = e.instr ∧ e.word = w := by
  simp only [decodeEvt16, evtKind_toNat, extractLsb'_eq_zero_iff] at h
  split at h
  case h_1 kind =>
    split at h <;> cases h
    refine ⟨.reset (w.getLsbD 0), rfl, BitVec.eq_of_toNat_eq ?_⟩
    rw [resetWord_toNat, toNat_getLsbD_zero]
    omega
  case h_2 kind =>
    split at h <;> cases h
    refine ⟨.start, rfl, BitVec.eq_of_toNat_eq ?_⟩
    rw [startWord_toNat]
    omega
  case h_3 kind =>
    split at h <;> cases h
    refine ⟨.tick (w.extractLsb' 0 10), rfl, BitVec.eq_of_toNat_eq ?_⟩
    rw [tickWord_toNat, BitVec.extractLsb'_toNat, Nat.shiftRight_zero]
    omega
  case h_4 kind =>
    split at h <;> cases h
    refine ⟨.loop (w.getLsbD 0), rfl, BitVec.eq_of_toNat_eq ?_⟩
    rw [loopWord_toNat, toNat_getLsbD_zero]
    omega
  case h_5 => cases h

/-- The decoder of the trace accepts the words of the four events and nothing else. -/
theorem decodeEvt16_ok_iff {w : EventWord} {i : Instr} :
    decodeEvt16 w = .ok i ↔ ∃ e : Event, i = e.instr ∧ e.word = w := by
  refine ⟨word_of_decodeEvt16, ?_⟩
  rintro ⟨e, rfl, rfl⟩
  exact decodeEvt16_word e

/-! ### The loop codes -/

theorem ofCode_code (l : LStep) : LStep.ofCode l.code = some l := by cases l <;> rfl

theorem decodeLstep3_code (l : LStep) : decodeLstep3 l.code = .ok l.instr := by rw [decodeLstep3, ofCode_code]

theorem encode_lstep (l : LStep) : encode l.instr = l.code.setWidth 16 := by cases l <;> rfl

theorem code_of_ofCode {c : BitVec 3} {l : LStep} (h : LStep.ofCode c = some l) : c = l.code := by
  revert c
  cases l <;> decide

theorem code_of_decodeLstep3 {c : BitVec 3} {i : Instr} (h : decodeLstep3 c = .ok i) :
    ∃ l : LStep, i = l.instr ∧ c = l.code := by
  unfold decodeLstep3 at h
  split at h <;> cases h
  next l named => exact ⟨l, rfl, code_of_ofCode named⟩

/-! ### The slot selectors -/

theorem decodePhase5_format : ∀ sel : BitVec 5, (decodePhase5 sel).format = .phase5 := by decide

theorem encode_decodePhase5 : ∀ sel : BitVec 5, encode (decodePhase5 sel) = sel.setWidth 16 := by decide

/-- A word with no bit above a selector's width is the selector's. -/
theorem setWidth_extractLsb' {w : BitVec 16} {width : Nat} (fits : w.toNat < 2 ^ width) :
    (w.extractLsb' 0 width).setWidth 16 = w := by
  apply BitVec.eq_of_toNat_eq
  rw [BitVec.toNat_setWidth, BitVec.extractLsb'_toNat, Nat.shiftRight_zero, Nat.mod_eq_of_lt fits,
    Nat.mod_eq_of_lt w.isLt]

/-- The operations of the loop's format are the steps `lstep` names. -/
theorem lstep_of_format {i : Instr} (format : i.format = .lstep3) : ∃ l : LStep, i = l.instr := by
  cases i with
  | ls0Snap3 => exact ⟨.ls0, rfl⟩
  | ls1Classify => exact ⟨.ls1, rfl⟩
  | ls2Outw1 => exact ⟨.ls2, rfl⟩
  | ls3Outw2 => exact ⟨.ls3, rfl⟩
  | ls4Ticksnap => exact ⟨.ls4, rfl⟩
  | ls5Gate => exact ⟨.ls5, rfl⟩
  | ls6Fancheck => exact ⟨.ls6, rfl⟩
  | _ => cases format

/-! ### The formats narrower than a word -/

theorem decode_phase5_ok_iff {w : BitVec 16} {i : Instr} :
    decode .phase5 w = .ok i ↔ w.toNat < 32 ∧ decodePhase5 (w.extractLsb' 0 5) = i := by
  by_cases fits : w.toNat < 32 <;> simp [decode, fits]

theorem decode_lstep3_ok_iff {w : BitVec 16} {i : Instr} :
    decode .lstep3 w = .ok i ↔ w.toNat < 8 ∧ decodeLstep3 (w.extractLsb' 0 3) = .ok i := by
  by_cases fits : w.toNat < 8 <;> simp [decode, fits]

/-! ### The obligations -/

/-- Settles O4: a phase's word has one value for each of `b`, a loop step has one word, and the four events are the
events of the trace. -/
theorem decodeOfEncode : Obligations.DecodeOfEncode := by
  intro i _
  cases i with
  | reset hs => exact decodeEvt16_word (.reset hs)
  | start => exact decodeEvt16_word .start
  | tick v => exact decodeEvt16_word (.tick v)
  | loop m => exact decodeEvt16_word (.loop m)
  | ls0Snap3 | ls1Classify | ls2Outw1 | ls3Outw2 | ls4Ticksnap | ls5Gate | ls6Fancheck => rfl
  | ph0Fan b | phAmb1 b | phFar2 b | phNear3 b | phAmb4 b | phFar5 b | phNear6 b | phAmb7 b | phFar8 b | phNear9 b
  | phAmb10 b | ph11FarMuxfan b | ph12Near b | phDiscard13 b | phDiscard14 b | ph15Muxphoto b => cases b <;> rfl

/-- Settles O5: a word no wider than its format is its selector's, whose operation encodes to it; an event word is the
word of its event. -/
theorem encodeOfDecode : Obligations.EncodeOfDecode := by
  intro f w i h
  cases f with
  | phase5 =>
    obtain ⟨fits, rfl⟩ := decode_phase5_ok_iff.mp h
    exact ⟨decodePhase5_format _, (encode_decodePhase5 _).trans (setWidth_extractLsb' fits)⟩
  | lstep3 =>
    obtain ⟨fits, decoded⟩ := decode_lstep3_ok_iff.mp h
    obtain ⟨l, rfl, code⟩ := code_of_decodeLstep3 decoded
    have format : l.instr.format = .lstep3 := by cases l <;> rfl
    exact ⟨format, by rw [encode_lstep, ← code, setWidth_extractLsb' fits]⟩
  | evt16 =>
    obtain ⟨e, rfl, word⟩ := decodeEvt16_ok_iff.mp h
    have format : e.instr.format = .evt16 := by cases e <;> rfl
    exact ⟨format, word⟩

/-- The words of the events, as numbers (30_encoding.md R65). -/
theorem decodeEvt16_accepts_iff (w : EventWord) : (∃ i, decodeEvt16 w = .ok i) ↔
    w.toNat ≤ 1 ∨ w.toNat = 0x1000 ∨ (0x2000 ≤ w.toNat ∧ w.toNat ≤ 0x23FF) ∨
      (0x3000 ≤ w.toNat ∧ w.toNat ≤ 0x3001) := by
  constructor
  · rintro ⟨i, h⟩
    obtain ⟨e, -, rfl⟩ := decodeEvt16_ok_iff.mp h
    cases e with
    | reset hs =>
      rw [resetWord_toNat]
      exact .inl hs.toNat_le
    | start => exact .inr (.inl rfl)
    | tick v =>
      have lt := v.isLt
      rw [tickWord_toNat]
      omega
    | loop m =>
      have le := m.toNat_le
      rw [loopWord_toNat]
      omega
  · intro range
    have accepted (e : Event) (word : w.toNat = e.word.toNat) : ∃ i, decodeEvt16 w = .ok i :=
      ⟨e.instr, decodeEvt16_ok_iff.mpr ⟨e, rfl, (BitVec.eq_of_toNat_eq word).symm⟩⟩
    obtain reset | start | ⟨tick_le, le_tick⟩ | ⟨loop_le, le_loop⟩ := range
    · refine accepted (.reset (w.getLsbD 0)) ?_
      rw [resetWord_toNat, toNat_getLsbD_zero]
      omega
    · exact accepted .start start
    · refine accepted (.tick (BitVec.ofNat 10 (w.toNat - 0x2000))) ?_
      rw [tickWord_toNat, BitVec.toNat_ofNat]
      omega
    · refine accepted (.loop (w.getLsbD 0)) ?_
      rw [loopWord_toNat, toNat_getLsbD_zero]
      omega

/-- Settles O6: the words as numbers; a word that is no event is decoded to an error, which the step hands on. -/
theorem malformedEventsAreRefused : Obligations.MalformedEventsAreRefused := by
  refine ⟨decodeEvt16_accepts_iff, fun s w rest queue no_event => ?_⟩
  rw [Machine.step, Machine.fetch_cons s w rest queue]
  cases decoded : decodeEvt16 w with
  | ok i => exact absurd ⟨i, decoded⟩ no_event
  | error r => exact ⟨r, rfl⟩

/-- Settles O1: each word is a closed one, and the decoders compute. -/
theorem specWordsDecode : Obligations.SpecWordsDecode := by
  unfold Obligations.SpecWordsDecode
  decide

/-- Settles O3: the codes are the tables'; that each step is decoded from its code and encoded to it holds step by
step. -/
theorem codesNameTheirSteps : Obligations.CodesNameTheirSteps := by
  refine ⟨by decide, by decide, by decide, by decide, fun l => ⟨decodeLstep3_code l, encode_lstep l⟩, by decide⟩

end Sys2Proof
end

section
/-! PROOFS. What an event runs: the slot the selector is decoded to, or the step `lstep` names (30_encoding.md rules R56,
R64, R65; 20_memory.md rule R50). No operation stops, so a step stops only at a word that is no event. -/

namespace Sys2Proof.Machine

/-! ### The operation an event runs -/

/-- The row a selector is decoded to is the slot of its phase's class, with its outer-cycle bit (30_encoding.md R57). -/
theorem exec_decodePhase5 (sel : BitVec 5) (s : State) :
    exec (decodePhase5 sel) s = .next (performSlot (outerOf sel) (slotClass (phaseOf sel)) s).advanceTick := by
  have lt : (phaseOf sel).toNat < 16 := (phaseOf sel).isLt
  rw [decodePhase5, slotClass]
  generalize (phaseOf sel).toNat = phase at lt ⊢
  interval_cases phase <;> rfl

theorem exec_tick (v : Reading) (s : State) :
    exec (.tick v) s = exec (decodePhase5 (selectorOf s.tick)) (s.withAdc v) :=
  (exec_decodePhase5 (selectorOf s.tick) (s.withAdc v)).symm

theorem exec_loop_of_running (m : Bool) {s : State} (running : s.running = true) :
    exec (.loop m) s = exec s.lstep.instr (s.withModeSel m) := by
  change execLoop m s = _
  rw [execLoop, running, loopStep, withModeSel_lstep]
  cases s.lstep <;> rfl

theorem exec_loop_of_idle (m : Bool) {s : State} (idle : s.running = false) : exec (.loop m) s = .next s := by
  change execLoop m s = _
  rw [execLoop, idle]

/-! ### No operation stops (60_exceptions.md R135) -/

theorem exec_lstep_total (l : LStep) (s : State) : ∃ t, exec l.instr s = .next t := by
  cases l <;> exact ⟨_, rfl⟩

theorem exec_total (i : Instr) (s : State) : ∃ t, exec i s = .next t := by
  cases i with
  | loop m =>
    cases running : s.running with
    | false => exact ⟨s, exec_loop_of_idle m running⟩
    | true =>
      rw [exec_loop_of_running m running]
      exact exec_lstep_total s.lstep (s.withModeSel m)
  | _ => exact ⟨_, rfl⟩

/-! ### The step -/

theorem step_of_event {s : State} {w : EventWord} {rest : List EventWord} {i : Instr} (queue : s.inputs = w :: rest)
    (decoded : decodeEvt16 w = .ok i) : step s = exec i { s with inputs := rest } := by
  rw [step, fetch_cons s w rest queue, decoded]

theorem step_of_no_event {s : State} (queue : s.inputs = []) :
    step s = exec (Config.envEvent s.envDraws).instr { s with envDraws := s.envDraws + 1 } := by
  rw [step, fetch_nil s queue]

/-- A step runs a pushed event on the state it was pushed onto. -/
theorem step_pushEvent {w : EventWord} {i : Instr} (decoded : decodeEvt16 w = .ok i) (s : State) :
    step (s.pushEvent w) = exec i s :=
  step_of_event rfl decoded

/-! ### The obligations -/

/-- Settles O8: the two cases of a fetch. -/
theorem stepRunsTheNextEvent : Obligations.StepRunsTheNextEvent :=
  ⟨fun _ _ _ _ => step_of_event, fun _ => step_of_no_event⟩

/-- Settles O9: the selector's row and the `TICK` event are the same slot. -/
theorem tickRunsTheDecodedSlot : Obligations.TickRunsTheDecodedSlot := exec_tick

/-- Settles O10: a running LOOP event is the step whose code stands in `lstep`, which is decoded to it and completes. -/
theorem loopRunsTheDecodedStep : Obligations.LoopRunsTheDecodedStep := by
  refine fun m s => ⟨fun running => ?_, exec_loop_of_idle m⟩
  obtain ⟨t, completes⟩ := exec_lstep_total s.lstep (s.withModeSel m)
  exact ⟨s.lstep.instr, t, decodeLstep3_code s.lstep, completes, (exec_loop_of_running m running).trans completes⟩

/-- Settles O12: with nothing queued or an event queued, the step is an operation, and no operation stops. -/
theorem noOperationStops : Obligations.NoOperationStops := by
  refine ⟨exec_total, fun s events => ?_⟩
  cases queue : s.inputs with
  | nil =>
    rw [step_of_no_event queue]
    exact exec_total _ _
  | cons w rest =>
    obtain ⟨i, decoded⟩ := events w rest queue
    rw [step_of_event queue decoded]
    exact exec_total _ _

/-! ### Placing a word of the opcode table (log 20) -/

/-- The low bits of a tick count that a selector replaced are that selector. -/
theorem selectorOf_replace (tick : Nat) (w : BitVec 16) :
    selectorOf (tick / 32 * 32 + w.toNat) = w.extractLsb' 0 5 := by
  apply BitVec.eq_of_toNat_eq
  rw [selectorOf, BitVec.toNat_ofNat, BitVec.extractLsb'_toNat, Nat.shiftRight_zero]
  omega

section
variable (s : State) {nbits w : Nat}

theorem withFetchWord_event (format : tableFormat nbits w = .evt16) :
    s.withFetchWord nbits w = s.pushEvent (tableWord nbits w) := by
  rw [State.withFetchWord, placeTableWord, format]

theorem withFetchWord_selector (format : tableFormat nbits w = .phase5) (fits : (tableWord nbits w).toNat < 32) :
    s.withFetchWord nbits w =
      { s with tick := s.tick / 32 * 32 + (tableWord nbits w).toNat }.pushEvent (Event.tick s.adc).word := by
  rw [State.withFetchWord, placeTableWord, format]
  exact if_pos fits

theorem withFetchWord_code {l : LStep} (format : tableFormat nbits w = .lstep3)
    (code : (tableWord nbits w).extractLsb' 0 3 = l.code) :
    s.withFetchWord nbits w = { s with lstep := l, running := true }.pushEvent (Event.loop s.modeSel).word := by
  have named : LStep.ofCode ((tableWord nbits w).extractLsb' 0 3) = some l := by rw [code, ofCode_code]
  rw [State.withFetchWord, placeTableWord, format]
  dsimp only
  rw [named]

end

/-- Settles O11: format by format, the placed word is the one the machine's own selector holds at the next event. -/
theorem placedTableWordRuns : Obligations.PlacedTableWordRuns := by
  intro s nbits w i read
  have decoded : decode (tableFormat nbits w) (tableWord nbits w) = .ok i := by
    unfold decodeTableWord at read
    split at read <;> cases read
    assumption
  cases format : tableFormat nbits w <;> rw [format] at decoded
  case phase5 =>
    obtain ⟨fits, rfl⟩ := decode_phase5_ok_iff.mp decoded
    rw [withFetchWord_selector s format fits, step_pushEvent (decodeEvt16_word (.tick s.adc)),
      ← selectorOf_replace]
    exact exec_tick _ _
  case lstep3 =>
    obtain ⟨-, decoded⟩ := decode_lstep3_ok_iff.mp decoded
    obtain ⟨l, rfl, code⟩ := code_of_decodeLstep3 decoded
    rw [withFetchWord_code s format code, step_pushEvent (decodeEvt16_word (.loop s.modeSel))]
    exact exec_loop_of_running _ rfl
  case evt16 =>
    rw [withFetchWord_event s format]
    exact step_pushEvent decoded s

end Sys2Proof.Machine
end

section
/-! PROOFS. The scheduler as its table of control words (30_encoding.md rule R60): each slot class has one word, and a
slot writes what its word says, so one equation writes out the state after any slot. The rules of the slots and what
holds of every TICK step (41_scheduler.md rules R75 to R77, R82, R84) are read off it. -/

namespace Sys2Proof.Machine

/-! ### The control word of a class -/

/-- The control word of a slot class, field by field (30_encoding.md R60). -/
def controlOf : SlotClass → ControlWord
  | .ph0Fan => ⟨.fan, true, false, false, false, false, false⟩
  | .phAmb => ⟨.amb, false, true, true, false, false, false⟩
  | .phFar => ⟨.far, false, false, false, true, false, false⟩
  | .phNear => ⟨.near, true, false, false, false, false, false⟩
  | .ph11FarMuxfan => ⟨.far, false, false, false, true, true, false⟩
  | .ph12Near => ⟨.near, false, false, false, false, false, false⟩
  | .phDiscard => ⟨.none, false, false, false, false, false, false⟩
  | .ph15Muxphoto => ⟨.none, false, false, false, false, false, true⟩

theorem decodeControl_controlRom : ∀ p : BitVec 4, decodeControl (controlRom p) = .ok (controlOf (slotClass p)) := by
  decide

/-- The two forms of the schedule agree slot by slot (30_encoding.md R60, decision D22). -/
theorem runControl_controlOf (b : Bool) (c : SlotClass) (s : State) :
    runControl (controlOf c) b s = performSlot b c s := by
  cases c
  case ph11FarMuxfan =>
    have mode : (s.accumulate .far).fanMode = s.fanMode := accumulate_fanMode .far s
    change ((s.accumulate .far).writeEmitNear false).writeMuxCfg (fanCfg (s.accumulate .far).fanMode b) = _
    rw [mode]
    rfl
  all_goals rfl

/-! ### The state after a slot -/

/-- The filters after the reading was routed to one of them, or to none. -/
def State.feed (dest : Option BufId) (s : State) : State := { s with
  near := if dest = some .near then (s.near.update s.adc).1 else s.near
  far := if dest = some .far then (s.far.update s.adc).1 else s.far
  amb := if dest = some .amb then (s.amb.update s.adc).1 else s.amb
  fanSig := if dest = some .fanSig then (s.fanSig.update s.adc).1 else s.fanSig
  fanRef := if dest = some .fanRef then (s.fanRef.update s.adc).1 else s.fanRef }

/-- The filter a slot updates: the one its word routes the reading to, and none with `running` clear
(41_scheduler.md R77). -/
def slotDest (b : Bool) (c : SlotClass) (s : State) : Option BufId :=
  if s.running = true then routeBuf (controlOf c).route s.fanMode b else none

/-- The line writes a slot records, in order (41_scheduler.md R80 to R87). -/
def slotWrites (b : Bool) (c : SlotClass) (s : State) : List Obs :=
  match c with
  | .ph0Fan | .phNear => [.emitFar s.tick true]
  | .phAmb => [.emitFar s.tick false, .emitNear s.tick true]
  | .phFar => [.emitNear s.tick false]
  | .ph11FarMuxfan => [.emitNear s.tick false, .muxCfg s.tick (fanCfg s.fanMode b)]
  | .ph12Near | .phDiscard => []
  | .ph15Muxphoto => [.muxCfg s.tick .photo]

/-- A line after a word's set and clear bits. -/
def lineAfter (set clr : Bool) (line : Bool) : Bool := if set = true then true else if clr = true then false else line

/-- The multiplexer after a word's two bits. -/
def muxAfter (cw : ControlWord) (m : FanMode) (b : Bool) (cfg : MuxCfg) : MuxCfg :=
  if cw.muxFan = true then fanCfg m b else if cw.muxPhoto = true then .photo else cfg

theorem accumulate_eq_feed (buf : BufId) (s : State) :
    s.accumulate buf = s.feed (if s.running = true then some buf else none) := by
  rw [accumulate_eq, State.feed]
  cases s.running <;> simp

theorem feed_slotDest_of_unrouted {b : Bool} {c : SlotClass} {s : State}
    (unrouted : routeBuf (controlOf c).route s.fanMode b = none) : s.feed (slotDest b c s) = s := by
  rw [slotDest, unrouted, ite_self]
  rfl

/-- The state after a slot: the filters by the route of the slot's control word, the lines by its other bits. -/
theorem performSlot_eq (b : Bool) (c : SlotClass) (s : State) : performSlot b c s = { s.feed (slotDest b c s) with
    emitNear := lineAfter (controlOf c).nearSet (controlOf c).nearClr s.emitNear
    emitFar := lineAfter (controlOf c).farSet (controlOf c).farClr s.emitFar
    muxCfg := muxAfter (controlOf c) s.fanMode b s.muxCfg
    obs := s.obs ++ slotWrites b c s } := by
  cases c
  case ph0Fan =>
    rw [performSlot, slotPh0Fan, accumulate_eq_feed]
    rfl
  case phAmb =>
    rw [performSlot, slotPhAmb, accumulate_eq_feed, slotWrites, ← List.singleton_append, ← List.append_assoc]
    rfl
  case phFar =>
    rw [performSlot, slotPhFar, accumulate_eq_feed]
    rfl
  case phNear =>
    rw [performSlot, slotPhNear, accumulate_eq_feed]
    rfl
  case ph11FarMuxfan =>
    rw [performSlot, slotPh11FarMuxfan, accumulate_eq_feed, slotWrites, ← List.singleton_append, ← List.append_assoc]
    rfl
  case ph12Near =>
    rw [performSlot, slotPh12Near, accumulate_eq_feed, slotWrites, List.append_nil]
    rfl
  case phDiscard =>
    rw [feed_slotDest_of_unrouted rfl, slotWrites, List.append_nil]
    rfl
  case ph15Muxphoto =>
    rw [feed_slotDest_of_unrouted rfl]
    rfl

theorem feed_none (s : State) : s.feed none = s := rfl

theorem slotDest_of_idle {s : State} (idle : s.running = false) (b : Bool) (c : SlotClass) : slotDest b c s = none := by
  rw [slotDest, idle]
  rfl

/-! ### The TICK step -/

/-- The slot class and the outer-cycle bit that `tick` selects (30_encoding.md R56, R57). -/
def State.slot (s : State) : SlotClass := slotClass (phaseOf (selectorOf s.tick))

def State.outer (s : State) : Bool := outerOf (selectorOf s.tick)

/-- The state after a TICK step (41_scheduler.md R75, R76). -/
theorem tickStep_eq (s : State) : tickStep s = { s.feed (slotDest s.outer s.slot s) with
    emitNear := lineAfter (controlOf s.slot).nearSet (controlOf s.slot).nearClr s.emitNear
    emitFar := lineAfter (controlOf s.slot).farSet (controlOf s.slot).farClr s.emitFar
    muxCfg := muxAfter (controlOf s.slot) s.fanMode s.outer s.muxCfg
    tick := (s.tick + 1) % 2 ^ s.par.tickW
    obs := s.obs ++ slotWrites s.outer s.slot s } := by
  change (performSlot s.outer s.slot s).advanceTick = _
  rw [performSlot_eq]
  rfl

theorem tickStep_tick (s : State) : (tickStep s).tick = (s.tick + 1) % s.par.tickRange := by rw [tickStep_frame]

/-- The selector moves on by one with each tick (41_scheduler.md R76). -/
theorem selectorOf_next {s : State} (wf : s.par.wf = true) :
    selectorOf ((s.tick + 1) % s.par.tickRange) = selectorOf s.tick + 1 :=
  selectorOf_advanceTick wf

/-! ### The obligations -/

/-- Settles O7: the sixteen words are the words of the slot classes, and a class's word describes its slot. -/
theorem controlTableDrivesTheSchedule : Obligations.ControlTableDrivesTheSchedule := by
  refine ⟨by decide, fun s => ?_⟩
  rw [controlTickStep, decodeControl_controlRom]
  dsimp only
  rw [runControl_controlOf]
  rfl

/-- Settles O25: the state after a TICK step, on a state whose port shows the reading. -/
theorem tickStepFrame : Obligations.TickStepFrame := fun v s =>
  ⟨controlOf s.slot, slotDest s.outer s.slot s, s.obs ++ slotWrites s.outer s.slot s, decodeControl_controlRom _, rfl,
    congrArg Host.Outcome.next (tickStep_eq (s.withAdc v))⟩

/-! ### The two slots with two line writes (41_scheduler.md R82, R84) -/

theorem advanceTick_slotPhAmb (s : State) : (slotPhAmb s).advanceTick = { s with
    amb := if s.running then (s.amb.update s.adc).1 else s.amb
    emitFar := false
    emitNear := true
    tick := (s.tick + 1) % 2 ^ s.par.tickW
    obs := s.obs ++ [.emitFar s.tick false, .emitNear s.tick true] } := by
  simp [slotPhAmb, accumulate_eq, State.writeEmitFar, State.writeEmitNear, State.advanceTick, Config.Params.tickRange]

theorem advanceTick_slotPh11FarMuxfan (b : Bool) (s : State) : (slotPh11FarMuxfan b s).advanceTick = { s with
    far := if s.running then (s.far.update s.adc).1 else s.far
    emitNear := false
    muxCfg := fanCfg s.fanMode b
    tick := (s.tick + 1) % 2 ^ s.par.tickW
    obs := s.obs ++ [.emitNear s.tick false, .muxCfg s.tick (fanCfg s.fanMode b)] } := by
  simp [slotPh11FarMuxfan, accumulate_eq, State.writeEmitNear, State.writeMuxCfg, State.advanceTick,
    Config.Params.tickRange]

/-- Settles O18: the four rows are one slot, whose step is written out, the far line first in the record. -/
theorem ambientSlotRule : Obligations.AmbientSlotRule := by
  intro b o ho
  obtain ⟨-, row1, -, -, row4, -, -, row7, -, -, row10, -⟩ := slotMapDecodesEveryPhase.1 b o ho
  refine ⟨row1, row4, row7, row10, fun i hi s => ?_⟩
  have hexec : exec i s = .next (slotPhAmb s).advanceTick := by
    simp only [List.mem_cons, List.not_mem_nil, or_false] at hi
    obtain rfl | rfl | rfl | rfl := hi <;> rfl
  exact hexec.trans (congrArg Host.Outcome.next (advanceTick_slotPhAmb s))

/-- Settles O20: the two words are rows of the decoder, the configurations are the table's, and the step is written
out. -/
theorem farMuxFanSlotRule : Obligations.FarMuxFanSlotRule :=
  ⟨rfl, rfl, fun _ => rfl, rfl, rfl,
    fun b s => ⟨_, congrArg Host.Outcome.next (advanceTick_slotPh11FarMuxfan b s)⟩⟩

/-- Settles O26: `running` enters a slot only where it picks the filter to update. -/
theorem runningGatesOnlyTheFilters : Obligations.RunningGatesOnlyTheFilters := by
  intro i s t u format idle ht hu
  obtain ⟨b, c, hexec⟩ := exec_phase5 format
  cases (hexec s).symm.trans ht
  cases (hexec _).symm.trans hu
  rw [performSlot_eq, performSlot_eq, slotDest_of_idle idle, feed_none]
  exact ⟨rfl, rfl, rfl, rfl, rfl, rfl, rfl, rfl, rfl, rfl⟩

end Sys2Proof.Machine
end

section
/-! PROOFS. The invariants of the spec along every step. What a step keeps is said once, by the four events of
30_encoding.md rule R65; each invariant is then shown for a reset, a START, a TICK step and a step of the LOOP agent. -/

namespace Sys2Proof.Machine

/-- An invariant that does not read what is outside the block (the ports and the queue, 10_state.md R38) is kept by every
step if the four kinds of event keep it. -/
theorem step_keeps {P : State → Prop}
    (outside : ∀ s v m hs queue draws, P s →
      P { s with adc := v, modeSel := m, fanStrapHs := hs, inputs := queue, envDraws := draws })
    (reset : ∀ s, P s → P s.raiseReset) (start : ∀ s, P s → P { s with running := true })
    (tick : ∀ s, P s → P (tickStep s))
    (loop : ∀ s t, P s → s.running = true → exec s.lstep.instr s = .next t → P t)
    {s t : State} (h : P s) (ht : step s = .next t) : P t := by
  obtain ⟨e, u, hu, hexec⟩ := step_next ht
  have fetched : P u := by
    rw [hu]
    exact outside s s.adc s.modeSel s.fanStrapHs u.inputs u.envDraws h
  cases e with
  | reset hs =>
    cases hexec
    exact reset _ (outside u u.adc u.modeSel hs u.inputs u.envDraws fetched)
  | start =>
    cases hexec
    exact start u fetched
  | tick v =>
    cases hexec
    exact tick _ (outside u v u.modeSel u.fanStrapHs u.inputs u.envDraws fetched)
  | loop m =>
    obtain ⟨-, rfl⟩ | ⟨running, hl⟩ := execLoop_cases hexec
    · exact fetched
    · exact loop _ t (outside u u.adc m u.fanStrapHs u.inputs u.envDraws fetched) running hl

/-! ### The lines follow the phase (41_scheduler.md R88, R89) -/

/-- The set and clear bits of a phase's word turn the near line from what the phase before left into what this one
leaves. -/
theorem nearLit_of_phase_before : ∀ p : BitVec 4, lineAfter (controlOf (slotClass p)).nearSet
    (controlOf (slotClass p)).nearClr (nearLit (p - 1).toNat) = nearLit p.toNat := by decide

theorem farLit_of_phase_before : ∀ p : BitVec 4, lineAfter (controlOf (slotClass p)).farSet
    (controlOf (slotClass p)).farClr (farLit (p - 1).toNat) = farLit p.toNat := by decide

theorem muxLeft_of_slot_before (m : FanMode) (sel : BitVec 5) : muxAfter (controlOf (slotClass (phaseOf sel))) m
    (outerOf sel) (muxLeft m (sel - 1)) = muxLeft m sel := by
  revert sel
  cases m <;> decide

/-- At reset the lines are as phase 15 of the last cycle leaves them (41_scheduler.md R89). -/
theorem linesFollowPhase_at_start {s : State} (tick : s.tick = 0) (near : s.emitNear = false) (far : s.emitFar = false)
    (mux : s.muxCfg = .photo) : LinesFollowPhase s := by
  have last : selectorOf s.tick - 1 = 31 := by
    rw [tick]
    decide
  constructor <;> rw [last]
  · exact near
  · exact far
  · exact mux

theorem tickStep_linesFollowPhase {s : State} (wf : s.par.wf = true) (lines : LinesFollowPhase s) :
    LinesFollowPhase (tickStep s) := by
  have last : selectorOf (tickStep s).tick - 1 = selectorOf s.tick := by
    rw [tickStep_tick, selectorOf_next wf, BitVec.add_sub_cancel]
  constructor
  · rw [last, ← nearLit_of_phase_before, ← emitNear_eq_nearLit lines, tickStep_eq]
    rfl
  · rw [last, ← farLit_of_phase_before, ← emitFar_eq_farLit lines, tickStep_eq]
    rfl
  · rw [last, ← muxLeft_of_slot_before, tickStep_eq]
    change muxAfter _ s.fanMode s.outer s.muxCfg = _
    rw [lines.muxCfg]
    rfl

/-- Settles O27: a reset leaves what phase 15 does, a TICK step what its phase does, and the other events write none of
the lines, `tick` and `fanMode`. -/
theorem linesFollowThePhase : Obligations.LinesFollowThePhase := by
  intro s t wf lines ht
  refine (step_keeps (P := fun s => s.par.wf = true ∧ LinesFollowPhase s)
    (fun _ _ _ _ _ _ h => ⟨h.1, h.2.emitNear, h.2.emitFar, h.2.muxCfg⟩)
    (fun _ h => ⟨h.1, linesFollowPhase_at_start rfl rfl rfl rfl⟩)
    (fun _ h => ⟨h.1, h.2.emitNear, h.2.emitFar, h.2.muxCfg⟩) ?tick ?loop ⟨wf, lines⟩ ht).2
  case tick =>
    rintro s ⟨wf, lines⟩
    refine ⟨?_, tickStep_linesFollowPhase wf lines⟩
    rw [tickStep_frame]
    exact wf
  case loop =>
    rintro s t ⟨wf, lines⟩ - hl
    rw [loopStep_frame hl]
    exact ⟨wf, lines.emitNear, lines.emitFar, lines.muxCfg⟩

/-- No phase leaves both emitters on, and the phases from 11 on leave both off (41_scheduler.md R88). -/
theorem emitters_of_phase : ∀ p : BitVec 4, ¬ (nearLit p.toNat = true ∧ farLit p.toNat = true) ∧
    (11 ≤ p.toNat → nearLit p.toNat = false ∧ farLit p.toNat = false) := by decide

/-- Settles O28: where the lines follow the phase it is a fact about the sixteen phases. -/
theorem emittersNeverTogether : Obligations.EmittersNeverTogether := by
  intro s lines
  rw [EmittersExclusive, lines.emitNear, lines.emitFar]
  exact emitters_of_phase _

/-! ### The lines encode the level (42_classifier.md R103) -/

/-- Lines that encode the level meet the invariant at any step. -/
theorem linesEncodeLevel_of_both {s : State} (a : s.outA = wantA s.level) (b : s.outB = wantB s.level) :
    LinesEncodeLevel s :=
  ⟨fun _ _ => ⟨a, b⟩, fun _ _ => a, fun _ _ => b⟩

/-- The first write of an iteration makes its line encode the level, the second the other line, and the steps after them
write neither until `LS1` writes the level. -/
theorem loopStep_linesEncodeLevel {s t : State} (h : LinesEncodeLevel s) (ht : exec s.lstep.instr s = .next t) :
    LinesEncodeLevel t := by
  cases at_step : s.lstep <;> rw [at_step] at ht <;> cases ht
  case ls0 | ls4 | ls5 =>
    obtain ⟨a, b⟩ := h.settled (by simp [at_step]) (by simp [at_step])
    exact linesEncodeLevel_of_both a b
  case ls1 => exact ⟨fun ne _ => absurd rfl ne, fun h => absurd h (by simp), fun h => absurd h (by simp)⟩
  case ls2 =>
    have order : ((writeFirst s.lineOrder s).gotoStep .ls3).lineOrder = s.lineOrder := by
      rw [State.lineOrder, State.lineOrder, gotoStep_par, gotoStep_orderDraws, writeFirst_par, writeFirst_orderDraws]
    refine ⟨fun _ ne => absurd rfl ne, fun _ a_first => ?_, fun _ b_first => ?_⟩
    · simp [order.symm.trans a_first]
    · simp [order.symm.trans b_first]
  case ls3 =>
    cases order : s.lineOrder with
    | aFirst =>
      have a := h.betweenA at_step order
      exact linesEncodeLevel_of_both a rfl
    | bFirst =>
      have b := h.betweenB at_step order
      exact linesEncodeLevel_of_both rfl b
  case ls6 =>
    obtain ⟨a, b⟩ := h.settled (by simp [at_step]) (by simp [at_step])
    exact linesEncodeLevel_of_both (by simpa using a) (by simpa using b)

/-- Settles O37: a TICK step and a START write neither the lines nor the level nor `lstep`; a reset writes the level
`Off` and both lines low. -/
theorem linesEncodeTheLevel : Obligations.LinesEncodeTheLevel := by
  intro s t h ht
  refine step_keeps (fun _ _ _ _ _ _ h => ⟨h.settled, h.betweenA, h.betweenB⟩)
    (fun _ _ => linesEncodeLevel_of_both rfl rfl) (fun _ h => ⟨h.settled, h.betweenA, h.betweenB⟩) (fun s h => ?tick)
    (fun _ _ h _ hl => loopStep_linesEncodeLevel h hl) h ht
  case tick =>
    rw [tickStep_frame]
    exact ⟨h.settled, h.betweenA, h.betweenB⟩

/-! ### The standard-mode baseline and the idle loop (43_fan.md R118, 44_mainloop.md R121) -/

/-- Settles O50: a reset loads the baseline, and of the other steps only a TICK writes a filter, in standard mode never
`FANREF`. -/
theorem standardModeKeepsTheBaseline : Obligations.StandardModeKeepsTheBaseline := by
  intro s t h ht
  refine step_keeps (P := StdBaseline) (fun _ _ _ _ _ _ h => h) (fun _ _ _ => rfl) (fun _ h => h) (fun s h => ?tick)
    (fun s t h _ hl => ?loop) h ht
  case tick =>
    intro std
    have mode : s.fanMode = .std := by rwa [tickStep_frame] at std
    have kept : (tickStep s).fanRef = s.fanRef := performSlot_fanRef_of_std mode _ _
    rw [kept, h mode, tickStep_frame]
  case loop =>
    rw [loopStep_frame hl]
    exact h

/-- Settles O56: a reset puts the loop at its start, a START enables it, and a step of the loop is taken only while it is
enabled. -/
theorem idleLoopStandsAtStart : Obligations.IdleLoopStandsAtStart := by
  intro s t h ht
  refine step_keeps (P := LoopIdle) (fun _ _ _ _ _ _ h => h) (fun _ _ _ => rfl) (fun _ _ idle => by cases idle)
    (fun s h => ?tick) (fun s t _ running hl idle => ?loop) h ht
  case tick =>
    rw [tickStep_frame]
    exact h
  case loop =>
    rw [loopStep_frame hl] at idle
    cases running.symm.trans idle

end Sys2Proof.Machine
end

section
/-! PROOFS. The steps of the classifier and of the encoder (42_classifier.md rules R95, R96, R102, R104). A line write is
one equation in the order of the iteration; `mode_sel` is read by `LS1` alone. -/

namespace Sys2Proof.Machine

/-! ### The line writes -/

theorem writeFirst_eq (o : LineOrder) (s : State) : writeFirst o s = { s with
    outA := if o = .aFirst then wantA s.level else s.outA
    outB := if o = .aFirst then s.outB else wantB s.level
    obs := s.obs ++ [if o = .aFirst then .outA (wantA s.level) else .outB (wantB s.level)] } := by
  cases o <;> rfl

theorem writeSecond_eq (o : LineOrder) (s : State) : writeSecond o s = { s with
    outA := if o = .aFirst then s.outA else wantA s.level
    outB := if o = .aFirst then wantB s.level else s.outB
    obs := s.obs ++ [if o = .aFirst then .outB (wantB s.level) else .outA (wantA s.level)] } := by
  cases o <;> rfl

theorem exec_ls2Outw1 (s : State) : exec .ls2Outw1 s = .next { s with
    outA := if s.lineOrder = .aFirst then wantA s.level else s.outA
    outB := if s.lineOrder = .aFirst then s.outB else wantB s.level
    lstep := .ls3
    obs := s.obs ++ [if s.lineOrder = .aFirst then .outA (wantA s.level) else .outB (wantB s.level)] } :=
  congrArg (fun t : State => Host.Outcome.next (t.gotoStep .ls3)) (writeFirst_eq s.lineOrder s)

theorem exec_ls3Outw2 (s : State) : exec .ls3Outw2 s = .next { s with
    outA := if s.lineOrder = .aFirst then s.outA else wantA s.level
    outB := if s.lineOrder = .aFirst then wantB s.level else s.outB
    lstep := .ls4
    orderDraws := s.orderDraws + 1
    obs := s.obs ++ [if s.lineOrder = .aFirst then .outB (wantB s.level) else .outA (wantA s.level)] } :=
  congrArg (fun t : State => Host.Outcome.next (t.nextOrder.gotoStep .ls4)) (writeSecond_eq s.lineOrder s)

/-- `outA` is high for `Approaching` and `Saturated` (30_encoding.md R63). -/
theorem wantA_iff (l : Level) : wantA l = true ↔ l = .approaching ∨ l = .saturated := by cases l <;> decide

/-- `outB` is high for `On` and `Saturated` (30_encoding.md R63). -/
theorem wantB_iff (l : Level) : wantB l = true ↔ l = .on ∨ l = .saturated := by cases l <;> decide

/-- Both lines change exactly between levels whose codes differ in both bits (42_classifier.md R104). -/
theorem both_lines_change_iff (old new : Level) : (wantA new ≠ wantA old ∧ wantB new ≠ wantB old) ↔
    ((old, new) = (.approaching, .on) ∨ (old, new) = (.on, .approaching) ∨
      (old, new) = (.off, .saturated) ∨ (old, new) = (.saturated, .off)) := by
  cases old <;> cases new <;> decide

/-! ### The obligations on single steps -/

/-- Settles O33: the step is the copy of the three sums and the move of `lstep`. -/
theorem snapshotStepRule : Obligations.SnapshotStepRule := fun _ => rfl

/-- Settles O34: the step is one write of the level and the move of `lstep`. -/
theorem classifyStepRule : Obligations.ClassifyStepRule := fun _ => rfl

/-- Settles O36: the two steps written out, with the values the level gives the lines. -/
theorem lineWriteStepsRule : Obligations.LineWriteStepsRule := fun s =>
  ⟨wantA s.level, wantB s.level, wantA_iff s.level, wantB_iff s.level, exec_ls2Outw1 s, exec_ls3Outw2 s⟩

/-- Settles O38: after the first write one line is new and one old, which is the old or the new pair unless both lines
change. -/
theorem intermediateLineStates : Obligations.IntermediateLineStates := by
  intro s t old a b ht
  cases (exec_ls2Outw1 s).symm.trans ht
  rw [← both_lines_change_iff]
  cases order : s.lineOrder with
  | aFirst => simp [b, eq_comm]
  | bFirst => simp [a, eq_comm, and_comm]

/-! ### The level of `mode_sel` (42_classifier.md R96) -/

/-- A step of the loop other than `LS1` carries the level of `mode_sel` along and does not read it. -/
theorem loopStep_ignores_modeSel {l : LStep} (ne : l ≠ .ls1) (m n : Bool) {s t u : State}
    (ht : exec l.instr (s.withModeSel m) = .next t) (hu : exec l.instr (s.withModeSel n) = .next u) :
    t.blockView = u.blockView := by
  cases l
  case ls1 => exact absurd rfl ne
  case ls2 =>
    cases (exec_ls2Outw1 _).symm.trans ht
    cases (exec_ls2Outw1 _).symm.trans hu
    rfl
  case ls3 =>
    cases (exec_ls3Outw2 _).symm.trans ht
    cases (exec_ls3Outw2 _).symm.trans hu
    rfl
  case ls6 =>
    cases ht
    cases hu
    rw [fanCheck_eq, fanCheck_eq]
    rfl
  all_goals
    cases ht
    cases hu
    rfl

/-- A saturated snapshot is classified without the mode (42_classifier.md R97). -/
theorem classifyStep_ignores_modeSel {s t u : State} (sat : 6960 ≤ s.snapNear.toNat ∨ 6960 ≤ s.snapFar.toNat)
    (m n : Bool) (ht : exec .ls1Classify (s.withModeSel m) = .next t)
    (hu : exec .ls1Classify (s.withModeSel n) = .next u) : t.blockView = u.blockView := by
  cases (classifyStepRule _).symm.trans ht
  cases (classifyStepRule _).symm.trans hu
  simp only [withModeSel_snapNear, withModeSel_snapFar, classify_of_saturated sat]
  rfl

/-- Settles O35: a disabled loop changes nothing; an enabled one takes one step, and only `LS1` on an unsaturated snapshot
reads the level. -/
theorem modeSelectReadOnlyByClassify : Obligations.ModeSelectReadOnlyByClassify := by
  intro m n s t u ht hu unread
  cases running : s.running with
  | false =>
    cases (exec_loop_of_idle m running).symm.trans ht
    cases (exec_loop_of_idle n running).symm.trans hu
    rfl
  | true =>
    rw [exec_loop_of_running _ running] at ht hu
    by_cases at_ls1 : s.lstep = .ls1
    · rw [at_ls1] at ht hu
      exact classifyStep_ignores_modeSel (unread.resolve_left (absurd at_ls1)) m n ht hu
    · exact loopStep_ignores_modeSel at_ls1 m n ht hu

end Sys2Proof.Machine
end

section
/-! PROOFS. The fan controller (43_fan.md rules R110 to R117), the gate and the marker (44_mainloop.md rules R122 to R126).
The row of the state diagram a check takes is said once in numerals; over an event the controller's registers either stay
as they are or take one check. -/

namespace Sys2Proof.Machine

/-! ### The conditions in numerals -/

theorem fanDiff_eq (sig ref : Nat) : fanDiff sig ref = ref - sig := satsub_eq_sub ref sig

theorem fanBand_iff (p : Config.FanProfile) (diff : Nat) :
    fanBand p diff = true ↔ p.connThr ≤ diff ∧ diff ≤ p.offThr := by
  rw [fanBand, Bool.and_eq_true, decide_eq_true_iff, decide_eq_true_iff]

theorem fanTrig_iff (p : Config.FanProfile) (sig ref : Nat) :
    fanTrig p sig ref = true ↔ ref ≤ sig ∨ ref - sig < p.connThr ∨ p.onThr ≤ ref - sig := by
  rw [fanTrig, Bool.or_eq_true, Bool.or_eq_true, decide_eq_true_iff, decide_eq_true_iff, decide_eq_true_iff,
    fanDiff_eq, or_assoc]

section
variable {p : Config.FanProfile} {reload sig ref d : Nat}

/-! ### The rows of the state diagram (43_fan.md R114) -/

theorem fanNext_outside_band (outside : ¬ (p.connThr ≤ ref - sig ∧ ref - sig ≤ p.offThr)) :
    fanNext p reload sig ref true d = (true, d) := by
  rw [← fanDiff_eq, ← fanBand_iff] at outside
  rw [fanNext_on, if_neg outside]

theorem fanNext_count_down (inside : p.connThr ≤ ref - sig ∧ ref - sig ≤ p.offThr) (counting : d ≠ 0) :
    fanNext p reload sig ref true d = (true, d - 1) := by
  rw [← fanDiff_eq, ← fanBand_iff] at inside
  rw [fanNext_on, if_pos inside, if_neg counting]

theorem fanNext_turn_off (inside : p.connThr ≤ ref - sig ∧ ref - sig ≤ p.offThr) :
    fanNext p reload sig ref true 0 = (false, 0) := by
  rw [← fanDiff_eq, ← fanBand_iff] at inside
  rw [fanNext_on, if_pos inside, if_pos rfl]

theorem fanNext_turn_on (trig : ref ≤ sig ∨ ref - sig < p.connThr ∨ p.onThr ≤ ref - sig) :
    fanNext p reload sig ref false d = (true, reload) := by
  rw [← fanTrig_iff] at trig
  rw [fanNext_off, if_pos trig]

theorem fanNext_stay_off (no_trig : ¬ (ref ≤ sig ∨ ref - sig < p.connThr ∨ p.onThr ≤ ref - sig)) :
    fanNext p reload sig ref false d = (false, d) := by
  rw [← fanTrig_iff] at no_trig
  rw [fanNext_off, if_neg no_trig]

theorem fanNext_on_eq : fanNext p reload sig ref true d =
    (if p.connThr ≤ ref - sig ∧ ref - sig ≤ p.offThr ∧ d = 0 then false else true,
      if p.connThr ≤ ref - sig ∧ ref - sig ≤ p.offThr ∧ d ≠ 0 then d - 1 else d) := by
  by_cases inside : p.connThr ≤ ref - sig ∧ ref - sig ≤ p.offThr
  · by_cases zero : d = 0
    · subst zero
      simp [fanNext_turn_off inside, inside]
    · simp [fanNext_count_down inside zero, inside, zero]
  · have not_row (q : Prop) : ¬ (p.connThr ≤ ref - sig ∧ ref - sig ≤ p.offThr ∧ q) := fun h => inside ⟨h.1, h.2.1⟩
    rw [fanNext_outside_band inside, if_neg (not_row _), if_neg (not_row _)]

theorem fanNext_off_eq : fanNext p reload sig ref false d =
    (if ref ≤ sig ∨ ref - sig < p.connThr ∨ p.onThr ≤ ref - sig then true else false,
      if ref ≤ sig ∨ ref - sig < p.connThr ∨ p.onThr ≤ ref - sig then reload else d) := by
  split
  case isTrue trig => exact fanNext_turn_on trig
  case isFalse no_trig => exact fanNext_stay_off no_trig

/-! ### What every row does -/

/-- A check that finds the fan on counts down by at most one, and turns the fan off only at 0. -/
theorem fanNext_on_cases : fanNext p reload sig ref true d = (true, d) ∨
    (d ≠ 0 ∧ fanNext p reload sig ref true d = (true, d - 1)) ∨
    (d = 0 ∧ fanNext p reload sig ref true d = (false, 0)) := by
  by_cases inside : p.connThr ≤ ref - sig ∧ ref - sig ≤ p.offThr
  · by_cases zero : d = 0
    · subst zero
      exact .inr (.inr ⟨rfl, fanNext_turn_off inside⟩)
    · exact .inr (.inl ⟨zero, fanNext_count_down inside zero⟩)
  · exact .inl (fanNext_outside_band inside)

/-- A check that finds the fan off leaves it off or turns it on with the counter reloaded. -/
theorem fanNext_off_cases : fanNext p reload sig ref false d = (true, reload) ∨
    fanNext p reload sig ref false d = (false, d) := by
  by_cases trig : ref ≤ sig ∨ ref - sig < p.connThr ∨ p.onThr ≤ ref - sig
  · exact .inl (fanNext_turn_on trig)
  · exact .inr (fanNext_stay_off trig)

end

/-! ### The step -/

/-- `(fanOn, debounce)` after a fan check, with the thresholds of the latched mode. -/
def State.fanResult (s : State) : Bool × Nat :=
  fanNext (s.par.profile s.fanMode) s.par.debounceReload s.fanSig.sum.toNat s.fanRef.sum.toNat s.fanOn s.debounce

/-- The write of `fanOn` a fan check records: none where it does not change. -/
def State.fanWrite (s : State) : List Obs := if s.fanResult.1 = s.fanOn then [] else [.fanOn s.fanResult.1]

/-- A check writes `fanOn` exactly where it changes it (43_fan.md R112, R113). -/
theorem fanControl_fanOn (p : Config.FanProfile) (reload sig ref : Nat) (on : Bool) (d : Nat) :
    (fanControl p reload sig ref on d).fanOn =
      if (fanNext p reload sig ref on d).1 = on then none else some (fanNext p reload sig ref on d).1 := by
  rw [fanNext_eq]
  cases on with
  | true =>
    by_cases band : fanBand p (fanDiff sig ref) = true
    · by_cases zero : d = 0 <;> simp [fanControl, band, zero]
    · simp [fanControl, band]
  | false => by_cases trig : fanTrig p sig ref = true <;> simp [fanControl, trig]

/-- The whole state after `LS6` (44_mainloop.md R125, R126). -/
theorem exec_ls6Fancheck (s : State) : exec .ls6Fancheck s = .next { s with
    snapSig := s.fanSig.sum
    snapRef := s.fanRef.sum
    fanOn := s.fanResult.1
    debounce := s.fanResult.2
    lastFanCheck := nextMarker s.par s.lastFanCheck
    lstep := .ls0
    obs := s.obs ++ s.fanWrite ++ [.wdtKick] } := by
  have write : ((fanControl (s.par.profile s.fanMode) s.par.debounceReload s.fanSig.sum.toNat s.fanRef.sum.toNat s.fanOn
      s.debounce).fanOn.map Obs.fanOn).toList = s.fanWrite := by
    rw [fanControl_fanOn, State.fanWrite, State.fanResult]
    split <;> rfl
  rw [← write]
  exact congrArg (fun t : State => Host.Outcome.next ((advanceMarker t).gotoStep .ls0)) (fanCheck_eq _ _ s)

theorem exec_ls6Fancheck_of_result {s : State} {on : Bool} {d : Nat} (row : s.fanResult = (on, d)) :
    ∃ w, exec .ls6Fancheck s = .next { s with
      snapSig := s.fanSig.sum
      snapRef := s.fanRef.sum
      debounce := d
      fanOn := on
      lastFanCheck := (s.lastFanCheck + s.par.fanInterval) % 2 ^ s.par.tickW
      lstep := .ls0
      obs := w } := by
  rw [exec_ls6Fancheck, row]
  exact ⟨_, rfl⟩

/-! ### The obligations on one check -/

/-- Settles O39: the rows of the state diagram with the fan on. -/
theorem fanCheckWhileOn : Obligations.FanCheckWhileOn := by
  rintro s p diff on rfl rfl
  exact exec_ls6Fancheck_of_result (by rw [State.fanResult, on, fanNext_on_eq])

/-- Settles O40: the rows of the state diagram with the fan off. -/
theorem fanCheckWhileOff : Obligations.FanCheckWhileOff := by
  rintro s p diff off rfl rfl
  exact exec_ls6Fancheck_of_result (by rw [State.fanResult, off, fanNext_off_eq]; rfl)

/-- Settles O41: with the thresholds in their order the band and the condition are disjoint sets of differences, and
between `OFF_THR` and `ON_THR` neither holds. -/
theorem hysteresisBand : Obligations.HysteresisBand := by
  intro p reload sig ref d on conn_pos conn_le off_lt
  rw [fanBand_iff, fanTrig_iff, fanDiff_eq]
  refine ⟨by omega, fun above below => ?_⟩
  cases on with
  | true => exact fanNext_outside_band (by omega)
  | false => exact fanNext_stay_off (by omega)

/-- Settles O43: such a reading is outside the band for a fan that is on, and a reason to turn on one that is off. -/
theorem disconnectedForcesFanOn : Obligations.DisconnectedForcesFanOn := by
  rintro s sig ref conn rfl rfl rfl disconnected
  refine ⟨_, exec_ls6Fancheck s, ?_⟩
  change s.fanResult.1 = true
  rw [State.fanResult]
  cases on : s.fanOn with
  | true =>
    have below : s.fanRef.sum.toNat - s.fanSig.sum.toNat < (s.par.profile s.fanMode).connThr := by
      obtain lt | ⟨le, off | pos⟩ := disconnected
      · exact lt
      · cases on.symm.trans off
      · omega
    rw [fanNext_outside_band fun band => Nat.not_le.mpr below band.1]
  | false =>
    rw [fanNext_turn_on (by omega)]

/-! ### The controller's registers over an event -/

/-- The fan controller's registers and the count of its checks are as they were. -/
structure FanUntouched (s t : State) : Prop where
  fanOn : t.fanOn = s.fanOn
  debounce : t.debounce = s.debounce
  lastFanCheck : t.lastFanCheck = s.lastFanCheck
  kicks : kicks t.obs = kicks s.obs

/-- One fan check has run. -/
structure FanChecked (s t : State) : Prop where
  fanOn : t.fanOn = s.fanResult.1
  debounce : t.debounce = s.fanResult.2
  lastFanCheck : t.lastFanCheck = nextMarker s.par s.lastFanCheck
  kicks : kicks t.obs = kicks s.obs + 1

theorem loopStep_fan {l : LStep} {s t : State} (ht : exec l.instr s = .next t) :
    FanUntouched s t ∨ FanChecked s t := by
  have kicks_eq := loopStep_kicks ht
  cases l
  case ls2 =>
    cases (exec_ls2Outw1 s).symm.trans ht
    exact .inl ⟨rfl, rfl, rfl, kicks_eq⟩
  case ls3 =>
    cases (exec_ls3Outw2 s).symm.trans ht
    exact .inl ⟨rfl, rfl, rfl, kicks_eq⟩
  case ls6 =>
    cases (exec_ls6Fancheck s).symm.trans ht
    exact .inr ⟨rfl, rfl, rfl, kicks_eq⟩
  all_goals
    cases ht
    exact .inl ⟨rfl, rfl, rfl, kicks_eq⟩

theorem tickStep_fan (s : State) : FanUntouched s (tickStep s) := by
  have kicks_eq := tickStep_kicks s
  rw [tickStep_frame] at kicks_eq ⊢
  exact ⟨rfl, rfl, rfl, kicks_eq⟩

theorem event_fan {e : Event} {s t : State} (no_reset : isResetEvent e = false) (ht : exec e.instr s = .next t) :
    FanUntouched s t ∨ FanChecked s t := by
  cases e with
  | reset hs => cases no_reset
  | start =>
    cases ht
    exact .inl ⟨rfl, rfl, rfl, rfl⟩
  | tick v =>
    cases ht
    obtain ⟨on, d, marker, count⟩ := tickStep_fan (s.withAdc v)
    exact .inl ⟨on, d, marker, count⟩
  | loop m =>
    obtain ⟨-, rfl⟩ | ⟨-, hl⟩ := execLoop_cases ht
    · exact .inl ⟨rfl, rfl, rfl, rfl⟩
    · obtain ⟨on, d, marker, count⟩ | ⟨on, d, marker, count⟩ := loopStep_fan hl
      · exact .inl ⟨on, d, marker, count⟩
      · exact .inr ⟨on, d, marker, count⟩

/-! ### The legal states (43_fan.md R114) -/

theorem fanStateLegal_of_untouched {s t : State} (h : FanStateLegal s) (par : t.par = s.par) (fan : FanUntouched s t) :
    FanStateLegal t :=
  ⟨by rw [fan.debounce, par]; exact h.bounded, by rw [fan.debounce, fan.fanOn]; exact h.off⟩

theorem fanStateLegal_of_checked {s t : State} (h : FanStateLegal s) (par : t.par = s.par) (fan : FanChecked s t) :
    FanStateLegal t := by
  have bounded := h.bounded
  suffices legal : s.fanResult.2 ≤ s.par.debounceReload ∧ (s.fanResult.1 = false → s.fanResult.2 = 0) by
    constructor
    · rw [fan.debounce, par]
      exact legal.1
    · rw [fan.debounce, fan.fanOn]
      exact legal.2
  rw [State.fanResult]
  cases on : s.fanOn with
  | true =>
    obtain row | ⟨-, row⟩ | ⟨-, row⟩ := fanNext_on_cases <;> rw [row]
    · exact ⟨bounded, fun h => by cases h⟩
    · exact ⟨(Nat.sub_le _ 1).trans bounded, fun h => by cases h⟩
    · exact ⟨Nat.zero_le _, fun _ => rfl⟩
  | false =>
    obtain row | row := fanNext_off_cases <;> rw [row]
    · exact ⟨le_rfl, fun h => by cases h⟩
    · exact ⟨bounded, fun _ => h.off on⟩

/-- Settles O42: a reset clears both registers, a check takes a row of the state diagram, and nothing else writes
them. -/
theorem fanStateStaysLegal : Obligations.FanStateStaysLegal := by
  intro s t h ht
  refine step_keeps (P := FanStateLegal) (fun _ _ _ _ _ _ h => ⟨h.bounded, h.off⟩)
    (fun _ _ => ⟨Nat.zero_le _, fun _ => rfl⟩) (fun _ h => ⟨h.bounded, h.off⟩) (fun s h => ?tick)
    (fun s t h _ hl => ?loop) h ht
  case tick =>
    have par : (tickStep s).par = s.par := by rw [tickStep_frame]
    exact fanStateLegal_of_untouched h par (tickStep_fan s)
  case loop =>
    obtain fan | fan := loopStep_fan hl
    · exact fanStateLegal_of_untouched h (exec_par hl) fan
    · exact fanStateLegal_of_checked h (exec_par hl) fan

/-! ### The minimum on-time (43_fan.md R116) -/

theorem runEvents_cons {e : Event} {es : List Event} {s t : State} (h : runEvents (e :: es) s = .next t) :
    ∃ u, exec e.instr s = .next u ∧ runEvents es u = .next t := by
  obtain ⟨u, hu⟩ := exec_total e.instr s
  rw [runEvents, hu] at h
  exact ⟨u, hu, h⟩

/-- A refresh is never taken out of the record. -/
theorem runEvents_kicks_le {es : List Event} {s t : State} (h : runEvents es s = .next t) :
    kicks s.obs ≤ kicks t.obs := by
  induction es generalizing s with
  | nil =>
    cases h
    exact le_rfl
  | cons e es ih =>
    obtain ⟨u, hu, rest⟩ := runEvents_cons h
    have here : kicks s.obs ≤ kicks u.obs := by
      rw [kicksOnlyFromFanChecks e.instr s u hu]
      exact Nat.le_add_right _ _
    exact here.trans (ih rest)

/-- A check of a fan that is on spends one of the checks `debounce` counts: as long as one was left, the fan stays on and
at most one is gone. -/
theorem fanOn_of_checked {s t : State} (on : s.fanOn = true) (left : s.debounce ≠ 0) (fan : FanChecked s t) :
    t.fanOn = true ∧ s.debounce ≤ t.debounce + 1 := by
  rw [fan.fanOn, fan.debounce, State.fanResult, on]
  obtain row | ⟨-, row⟩ | ⟨zero, -⟩ := fanNext_on_cases
  · rw [row]
    exact ⟨rfl, Nat.le_succ _⟩
  · rw [row]
    exact ⟨rfl, Nat.le_of_eq (Nat.sub_add_cancel (Nat.pos_of_ne_zero left)).symm⟩
  · exact absurd zero left

theorem fanOn_of_few_checks {es : List Event} {s t : State} (no_reset : ∀ e ∈ es, isResetEvent e = false)
    (on : s.fanOn = true) (h : runEvents es s = .next t) (few : kicks t.obs ≤ kicks s.obs + s.debounce) :
    t.fanOn = true := by
  induction es generalizing s with
  | nil =>
    cases h
    exact on
  | cons e es ih =>
    obtain ⟨u, hu, rest⟩ := runEvents_cons h
    have later := ih (s := u) fun e he => no_reset e (List.mem_cons_of_mem _ he)
    obtain fan | fan := event_fan (no_reset e List.mem_cons_self) hu
    · exact later (fan.fanOn.trans on) rest (by rw [fan.kicks, fan.debounce]; exact few)
    · have le := runEvents_kicks_le rest
      rw [fan.kicks] at le
      obtain ⟨still_on, spent⟩ := fanOn_of_checked on (by omega) fan
      exact later still_on rest (by rw [fan.kicks]; omega)

/-- Settles O44: a check that finds the fan off and leaves it on took the row that reloads the counter; from then on, by
induction over the run, each check spends one. -/
theorem minimumOnTime : Obligations.MinimumOnTime := by
  refine ⟨fun s t wf off ht on => ?reload, fun es s t no_reset on h few => fanOn_of_few_checks no_reset on h few⟩
  case reload =>
    have positive : 1 ≤ s.par.onSeconds * s.par.fanCheckFreq := by
      simp only [Config.Params.wf, Config.Params.onSecondsOk, Config.Params.fanCheckFreqOk, Bool.and_eq_true,
        decide_eq_true_eq] at wf
      exact Nat.mul_pos wf.1.2 wf.2
    cases (exec_ls6Fancheck s).symm.trans ht
    change s.fanResult.1 = true at on
    change s.fanResult.2 + 1 = _
    rw [State.fanResult, off] at on ⊢
    obtain row | row := fanNext_off_cases <;> rw [row] at on ⊢
    · exact Nat.sub_add_cancel positive
    · cases on

end Sys2Proof.Machine
end

section
/-! PROOFS. The gate, the marker and the iteration (44_mainloop.md rules R120 to R126, 30_encoding.md rule R67). The marker
moves with the count of refreshes, event by event; an iteration's length counts down by one with each LOOP step. -/

namespace Sys2Proof.Machine

/-! ### The snapshot of `tick` and the gate -/

/-- Settles O46: the step is the copy of `tick` and the move of `lstep`. -/
theorem tickSnapshotRule : Obligations.TickSnapshotRule := fun _ => rfl

theorem gateFires_iff (p : Config.Params) (snap last : Nat) :
    gateFires p snap last = true ↔ (p.fanInterval : Int) < ((snap : Int) - last) % 2 ^ p.tickW := by
  rw [gateFires, decide_eq_true_iff, ← Int.ofNat_lt, elapsed_int (tickRange_pos p), Config.Params.tickRange,
    Nat.cast_pow]
  rfl

/-- Settles O47: the gate is the strict comparison of the interval with the difference in the integers. -/
theorem gateRule : Obligations.GateRule := by
  intro s
  change Host.Outcome.next (s.gotoStep (if gateFires s.par s.snapTick s.lastFanCheck = true then .ls6 else .ls0)) = _
  simp only [gateFires_iff]
  rfl

/-- Settles O48: the elapsed time is the number of ticks modulo the range, which is that number below the range and does
not see a whole range more. -/
theorem elapsedIsTheTrueDifference : Obligations.ElapsedIsTheTrueDifference := by
  refine ⟨fun w m n lt => ?exact, fun w m n => ?aliases, by decide⟩
  case exact => rw [elapsed_add (Nat.two_pow_pos w), Nat.mod_eq_of_lt lt]
  case aliases => rw [elapsed_add (Nat.two_pow_pos w), elapsed_add (Nat.two_pow_pos w), Nat.add_mod_right]

/-! ### The marker (44_mainloop.md R126) -/

theorem markerCountsChecks_of_event {base : Nat} {e : Event} {s t : State} (h : MarkerCountsChecks base s)
    (no_reset : isResetEvent e = false) (ht : exec e.instr s = .next t) : MarkerCountsChecks base t := by
  obtain ⟨k, count, marker⟩ := h
  have par := exec_par ht
  obtain fan | fan := event_fan no_reset ht
  · refine ⟨k, fan.kicks.trans count, ?_⟩
    rw [fan.lastFanCheck, par, marker]
  · refine ⟨k + 1, by rw [fan.kicks, count, Nat.add_assoc], ?_⟩
    rw [fan.lastFanCheck, par, marker, nextMarker, Nat.mod_add_mod, Nat.add_one_mul]

/-- Settles O49: a reset puts the marker and the count at 0; a fan check adds one interval and one refresh, and no other
event changes either. -/
theorem markerCountsTheChecks : Obligations.MarkerCountsTheChecks := by
  refine ⟨fun hs s t ht => ?reset, fun base s t no_reset h ht => ?event⟩
  case reset =>
    cases ht
    refine ⟨0, raiseReset_kicks (s.withStrap hs), ?_⟩
    rw [Nat.zero_mul, Nat.zero_mod]
    rfl
  case event =>
    rw [step] at ht
    cases fetched : fetch s with
    | mk read u =>
      rw [fetched] at ht no_reset
      cases read with
      | error r => cases ht
      | ok i =>
        obtain ⟨⟨e, rfl⟩, hu⟩ := fetch_ok fetched
        have here : MarkerCountsChecks base u := by
          rw [hu]
          exact h
        refine markerCountsChecks_of_event here ?_ ht
        cases e with
        | reset hs => exact absurd rfl (no_reset hs)
        | _ => rfl

/-! ### The range of the tick counts (10_state.md R20, R29, R30) -/

/-- Settles O60: `tick` and the marker are reduced modulo the range, and `snapTick` is a copy of `tick`. -/
theorem tickCountsStayInRange : Obligations.TickCountsStayInRange := by
  intro s t h ht
  refine step_keeps (P := TickCountsInRange) (fun _ _ _ _ _ _ h => ⟨h.tick, h.snapTick, h.lastFanCheck⟩)
    (fun s _ => ⟨tickRange_pos s.par, tickRange_pos s.par, tickRange_pos s.par⟩)
    (fun _ h => ⟨h.tick, h.snapTick, h.lastFanCheck⟩) (fun s h => ?tick) (fun s t h _ hl => ?loop) h ht
  case tick =>
    rw [tickStep_frame]
    exact ⟨Nat.mod_lt _ (tickRange_pos s.par), h.snapTick, h.lastFanCheck⟩
  case loop =>
    have par := exec_par hl
    have frame := loopStep_frame hl
    constructor
    · rw [par, frame]
      exact h.tick
    · rw [par]
      cases at_step : s.lstep <;> rw [at_step] at hl
      case ls4 =>
        cases hl
        exact h.tick
      all_goals
        cases hl
        simpa using h.snapTick
    · rw [par]
      obtain fan | fan := loopStep_fan hl <;> rw [fan.lastFanCheck]
      · exact h.lastFanCheck
      · exact Nat.mod_lt _ (tickRange_pos s.par)

/-! ### The length of an iteration (30_encoding.md R67) -/

theorem iterLength_pos {s : State} (running : s.running = true) : 0 < iterLength s := by
  rw [iterLength, running]
  cases s.lstep <;> simp

/-- A LOOP step takes one off the length of the iteration in progress, and ends it when one was left. -/
theorem iterLength_of_loop {m : Bool} {s t : State} (running : s.running = true) (ht : exec (.loop m) s = .next t) :
    t.running = true ∧ iterLength s = if t.lstep = .ls0 then 1 else iterLength t + 1 := by
  rw [exec_loop_of_running m running] at ht
  have still_running : t.running = true := by
    rw [loopStep_frame ht]
    exact running
  refine ⟨still_running, ?_⟩
  rw [iterLength, iterLength, running, still_running]
  cases at_step : s.lstep <;> rw [at_step] at ht
  case ls5 =>
    cases ht
    by_cases fires : gateFires s.par s.snapTick s.lastFanCheck = true <;> simp [fires]
  case ls6 =>
    cases ht
    simp
  all_goals
    cases ht
    by_cases fires : gateFires s.par s.tick s.lastFanCheck = true <;> simp [fires]

theorem runEvents_of_exec {e : Event} {s u : State} (hu : exec e.instr s = .next u) (es : List Event) :
    runEvents (e :: es) s = runEvents es u := by
  rw [runEvents, hu]

theorem loops_reach_start (m : Bool) {n : Nat} {s : State} (running : s.running = true)
    (length : iterLength s = n + 1) :
    ∃ t, runEvents (List.replicate (n + 1) (.loop m)) s = .next t ∧ t.lstep = .ls0 := by
  induction n generalizing s with
  | zero =>
    obtain ⟨u, hu⟩ := exec_total (.loop m) s
    obtain ⟨running_u, counted⟩ := iterLength_of_loop running hu
    refine ⟨u, runEvents_of_exec (e := .loop m) hu [], ?_⟩
    by_contra away
    have pos := iterLength_pos running_u
    rw [if_neg away] at counted
    omega
  | succ n ih =>
    obtain ⟨u, hu⟩ := exec_total (.loop m) s
    obtain ⟨running_u, counted⟩ := iterLength_of_loop running hu
    have away : u.lstep ≠ .ls0 := fun at_start => by
      rw [if_pos at_start] at counted
      omega
    rw [if_neg away] at counted
    obtain ⟨t, run, at_start⟩ := ih running_u (by omega)
    exact ⟨t, (runEvents_of_exec (e := .loop m) hu _).trans run, at_start⟩

theorem loops_before_start {m : Bool} {n : Nat} {s u : State} (running : s.running = true)
    (early : n + 1 < iterLength s) (run : runEvents (List.replicate (n + 1) (.loop m)) s = .next u) :
    u.lstep ≠ .ls0 := by
  induction n generalizing s with
  | zero =>
    obtain ⟨v, hv, rest⟩ := runEvents_cons run
    cases rest
    obtain ⟨-, counted⟩ := iterLength_of_loop running hv
    intro at_start
    rw [if_pos at_start] at counted
    omega
  | succ n ih =>
    obtain ⟨v, hv, rest⟩ := runEvents_cons run
    obtain ⟨running_v, counted⟩ := iterLength_of_loop running hv
    refine ih running_v ?_ rest
    split at counted <;> omega

/-- Settles O51: the length at `LS0` is the table's, and the steps count it down. -/
theorem iterationReturnsToStart : Obligations.IterationReturnsToStart := by
  intro m s running at_start
  have length : iterLength s = 6 + if gateFires s.par s.tick s.lastFanCheck = true then 1 else 0 := by
    rw [iterLength, running, at_start]
  refine ⟨?length, ?reaches, fun n u pos early run => ?before⟩
  case length =>
    by_cases fires : gateFires s.par s.tick s.lastFanCheck = true
    · exact .inl ⟨by rw [length, if_pos fires], fires⟩
    · exact .inr ⟨by rw [length, if_neg fires], by simpa using fires⟩
  case reaches =>
    obtain ⟨n, hn⟩ := Nat.exists_eq_add_one.mpr (iterLength_pos running)
    rw [hn]
    exact loops_reach_start m running hn
  case before =>
    obtain ⟨n, rfl⟩ := Nat.exists_eq_add_one.mpr pos
    exact loops_before_start running early run

end Sys2Proof.Machine
end

section
/-! PROOFS. The record and the two agents (20_memory.md rules R48, R51, R55; 10_state.md rule R39): what each operation adds
to the record, which registers it leaves, and that the agents' steps do not meet in a register. -/

namespace Sys2Proof.Machine

/-! ### The record (20_memory.md R55) -/

/-- A row of the schedule and its slot record the same writes; the state after it is not asked. -/
theorem recordedWrites_phase5 {i : Instr} (format : i.format = .phase5) : ∃ (b : Bool) (c : SlotClass),
    (∀ s, exec i s = .next (performSlot b c s).advanceTick) ∧ ∀ s t, recordedWrites i s t = slotWrites b c s := by
  cases i with
  | ph0Fan b => exact ⟨b, .ph0Fan, fun _ => rfl, fun _ _ => rfl⟩
  | phAmb1 b | phAmb4 b | phAmb7 b | phAmb10 b => exact ⟨b, .phAmb, fun _ => rfl, fun _ _ => rfl⟩
  | phFar2 b | phFar5 b | phFar8 b => exact ⟨b, .phFar, fun _ => rfl, fun _ _ => rfl⟩
  | phNear3 b | phNear6 b | phNear9 b => exact ⟨b, .phNear, fun _ => rfl, fun _ _ => rfl⟩
  | ph11FarMuxfan b => exact ⟨b, .ph11FarMuxfan, fun _ => rfl, fun _ _ => rfl⟩
  | ph12Near b => exact ⟨b, .ph12Near, fun _ => rfl, fun _ _ => rfl⟩
  | phDiscard13 b | phDiscard14 b => exact ⟨b, .phDiscard, fun _ => rfl, fun _ _ => rfl⟩
  | ph15Muxphoto b => exact ⟨b, .ph15Muxphoto, fun _ => rfl, fun _ _ => rfl⟩
  | _ => cases format

theorem exec_phase5_obs {i : Instr} {s t : State} (format : i.format = .phase5) (ht : exec i s = .next t) :
    t.obs = s.obs ++ recordedWrites i s t := by
  obtain ⟨b, c, hexec, writes⟩ := recordedWrites_phase5 format
  cases (hexec s).symm.trans ht
  rw [writes, performSlot_eq]
  rfl

theorem loopStep_obs {l : LStep} {s t : State} (ht : exec l.instr s = .next t) :
    t.obs = s.obs ++ recordedWrites l.instr s t := by
  cases l
  case ls2 =>
    cases (exec_ls2Outw1 s).symm.trans ht
    rfl
  case ls3 =>
    cases (exec_ls3Outw2 s).symm.trans ht
    rfl
  case ls6 =>
    cases (exec_ls6Fancheck s).symm.trans ht
    change s.obs ++ (if s.fanResult.1 = s.fanOn then [] else [.fanOn s.fanResult.1]) ++ [.wdtKick] =
      s.obs ++ if s.fanResult.1 = s.fanOn then [.wdtKick] else [.fanOn s.fanResult.1, .wdtKick]
    split <;> simp
  all_goals
    cases ht
    exact (List.append_nil _).symm

/-- The record takes the values of the lines from the registers, not from the ports. -/
theorem recordedWrites_withAdc (i : Instr) (v : Reading) (s t : State) :
    recordedWrites i (s.withAdc v) t = recordedWrites i s t := by
  cases i <;> rfl

theorem recordedWrites_withModeSel (i : Instr) (m : Bool) (s t : State) :
    recordedWrites i (s.withModeSel m) t = recordedWrites i s t := by
  cases i <;> rfl

/-- Settles O24: slot by slot and step by step; a `TICK` and a `LOOP` run one of them with a port's level set. -/
theorem operationsRecordTheirWrites : Obligations.OperationsRecordTheirWrites := by
  refine ⟨fun i s t no_tick no_loop ht => ?operation, fun v s t ht => ?tick, fun m s t ht => ?loop⟩
  case operation =>
    cases format : i.format with
    | phase5 => exact exec_phase5_obs format ht
    | lstep3 =>
      obtain ⟨l, rfl⟩ := lstep_of_format format
      exact loopStep_obs ht
    | evt16 =>
      cases i with
      | tick v => exact absurd rfl (no_tick v)
      | loop m => exact absurd rfl (no_loop m)
      | reset hs =>
        cases ht
        rfl
      | start =>
        cases ht
        exact (List.append_nil _).symm
      | _ => cases format
  case tick =>
    rw [exec_tick] at ht
    have recorded := exec_phase5_obs (decodePhase5_format _) ht
    rwa [recordedWrites_withAdc] at recorded
  case loop =>
    cases running : s.running with
    | false =>
      cases (exec_loop_of_idle m running).symm.trans ht
      exact (List.append_nil _).symm
    | true =>
      rw [exec_loop_of_running m running] at ht
      have recorded := loopStep_obs ht
      rwa [recordedWrites_withModeSel] at recorded

/-! ### The writers (10_state.md R39) -/

/-- The registers of the startup path and of the LOOP agent are as they were. -/
structure LoopRegistersKept (s t : State) : Prop where
  running : t.running = s.running
  fanMode : t.fanMode = s.fanMode
  fanOn : t.fanOn = s.fanOn
  debounce : t.debounce = s.debounce
  lastFanCheck : t.lastFanCheck = s.lastFanCheck
  snapNear : t.snapNear = s.snapNear
  snapFar : t.snapFar = s.snapFar
  snapAmb : t.snapAmb = s.snapAmb
  snapTick : t.snapTick = s.snapTick
  snapSig : t.snapSig = s.snapSig
  snapRef : t.snapRef = s.snapRef
  level : t.level = s.level
  lstep : t.lstep = s.lstep
  outA : t.outA = s.outA
  outB : t.outB = s.outB

theorem performSlot_keeps_loop_registers (b : Bool) (c : SlotClass) (s : State) :
    LoopRegistersKept s (performSlot b c s).advanceTick := by
  rw [performSlot_frame]
  constructor <;> rfl

theorem exec_phase5_keeps_loop_registers {i : Instr} {s t : State} (format : i.format = .phase5)
    (ht : exec i s = .next t) : LoopRegistersKept s t := by
  obtain ⟨b, c, hexec⟩ := exec_phase5 format
  cases (hexec s).symm.trans ht
  exact performSlot_keeps_loop_registers b c s

theorem tick_keeps_loop_registers {v : Reading} {s t : State} (ht : exec (.tick v) s = .next t) :
    LoopRegistersKept s t := by
  cases ht
  rw [tickStep_frame]
  constructor <;> rfl

theorem loopStep_tickView {l : LStep} {s t : State} (ht : exec l.instr s = .next t) : t.tickView = s.tickView := by
  rw [loopStep_frame ht]
  rfl

theorem loop_tickView {m : Bool} {s t : State} (ht : exec (.loop m) s = .next t) : t.tickView = s.tickView := by
  obtain ⟨-, rfl⟩ | ⟨-, hl⟩ := execLoop_cases ht
  · rfl
  · have kept := loopStep_tickView hl
    exact kept

/-- Settles O57: a slot writes filters, lines, `tick` and the record; a step of the loop writes none of the TICK agent's
view. -/
theorem eachRegisterHasOneWriter : Obligations.EachRegisterHasOneWriter := by
  refine fun i s t ht => ⟨exec_par ht, fun tick_agent => ?tick, fun loop_agent => ?loop⟩
  case tick =>
    have kept : LoopRegistersKept s t := by
      obtain format | ⟨v, rfl⟩ := tick_agent
      · exact exec_phase5_keeps_loop_registers format ht
      · exact tick_keeps_loop_registers ht
    exact ⟨kept.running, kept.fanMode, kept.fanOn, kept.debounce, kept.lastFanCheck, kept.snapNear, kept.snapFar,
      kept.snapAmb, kept.snapTick, kept.snapSig, kept.snapRef, kept.level, kept.lstep, kept.outA, kept.outB⟩
  case loop =>
    obtain format | ⟨m, rfl⟩ := loop_agent
    · obtain ⟨l, rfl⟩ := lstep_of_format format
      exact loopStep_tickView ht
    · exact loop_tickView ht

/-! ### The TICK agent in a run (20_memory.md R51) -/

/-- A state made of a TICK agent's view alone, with the rest as after reset. -/
def TickView.state (w : TickView) : State := { State.reset with
  par := w.par, near := w.near, far := w.far, amb := w.amb, fanSig := w.fanSig, fanRef := w.fanRef, tick := w.tick
  muxCfg := w.muxCfg, emitNear := w.emitNear, emitFar := w.emitFar, running := w.running, fanMode := w.fanMode }

/-- A TICK step reads nothing but the TICK agent's view and the reading. -/
theorem tickStep_tickView (v : Reading) (s : State) :
    (tickStep (s.withAdc v)).tickView = (tickStep (s.tickView.state.withAdc v)).tickView := by
  rw [tickStep_eq, tickStep_eq]
  rfl

/-- An event that is no LOOP step takes equal views to equal views. -/
theorem tickView_of_event {e : Event} {s s' t t' : State} (no_loop : isLoopEvent e = false)
    (views : s.tickView = s'.tickView) (ht : exec e.instr s = .next t) (ht' : exec e.instr s' = .next t') :
    t.tickView = t'.tickView := by
  cases e with
  | loop m => cases no_loop
  | reset hs =>
    have par : s.par = s'.par := congrArg TickView.par views
    cases ht
    cases ht'
    rw [raiseReset_eq, raiseReset_eq, withStrap_par, withStrap_par, par]
    rfl
  | start =>
    cases ht
    cases ht'
    exact congrArg (fun w : TickView => { w with running := true }) views
  | tick v =>
    cases ht
    cases ht'
    rw [tickStep_tickView, tickStep_tickView v s', views]

theorem tickView_of_runs {es : List Event} {s s' t u : State} (views : s.tickView = s'.tickView)
    (ht : runEvents es s = .next t) (hu : runEvents (es.filter fun e => !isLoopEvent e) s' = .next u) :
    t.tickView = u.tickView := by
  induction es generalizing s s' with
  | nil =>
    cases ht
    cases hu
    exact views
  | cons e es ih =>
    obtain ⟨v, hv, rest⟩ := runEvents_cons ht
    cases loop : isLoopEvent e with
    | true =>
      rw [List.filter_cons_of_neg (by simp [loop])] at hu
      cases e with
      | loop m => exact ih ((loop_tickView hv).trans views) rest hu
      | _ => cases loop
    | false =>
      rw [List.filter_cons_of_pos (by simp [loop])] at hu
      obtain ⟨v', hv', rest'⟩ := runEvents_cons hu
      exact ih (tickView_of_event loop views hv hv') rest rest'

/-- Settles O58: a LOOP step keeps the view, and every other event is a function of it, so the two runs keep equal views by
induction over the events. -/
theorem tickAgentIgnoresTheLoop : Obligations.TickAgentIgnoresTheLoop := fun _ _ _ _ => tickView_of_runs rfl

/-! ### Commutation (20_memory.md R48) -/

/-- A state with the registers a TICK step writes taken from a TICK agent's view. -/
def State.withTickView (w : TickView) (s : State) : State := { s with
  near := w.near, far := w.far, amb := w.amb, fanSig := w.fanSig, fanRef := w.fanRef, tick := w.tick
  muxCfg := w.muxCfg, emitNear := w.emitNear, emitFar := w.emitFar }

/-- A TICK step puts another view into the state and adds to the record. -/
theorem tickStep_eq_withTickView (s : State) :
    tickStep s = { s.withTickView (tickStep s).tickView with obs := (tickStep s).obs } := by
  rw [State.withTickView, State.tickView, tickStep_tick]
  exact tickStep_frame s

/-- The steps outside the critical sections read none of the registers a TICK step writes. -/
theorem loopStep_withTickView {l : LStep} (outside : l = .ls1 ∨ l = .ls2 ∨ l = .ls3 ∨ l = .ls5) (w : TickView)
    (v : Reading) (o : List Obs) {s t u : State} (hu : exec l.instr s = .next u)
    (ht : exec l.instr { s.withTickView w with adc := v, obs := o } = .next t) :
    t.blockView = (u.withTickView w).blockView := by
  obtain rfl | rfl | rfl | rfl := outside
  · cases ht
    cases hu
    rfl
  · cases (exec_ls2Outw1 _).symm.trans ht
    cases (exec_ls2Outw1 _).symm.trans hu
    rfl
  · cases (exec_ls3Outw2 _).symm.trans ht
    cases (exec_ls3Outw2 _).symm.trans hu
    rfl
  · cases ht
    cases hu
    rfl

/-- Such a step before a TICK step or after it: either way the TICK step puts in the same view, since it reads none of the
registers the step writes. -/
theorem tickStep_commutes {l : LStep} (outside : l = .ls1 ∨ l = .ls2 ∨ l = .ls3 ∨ l = .ls5) {v : Reading} {m : Bool}
    {s t u : State} (ht : exec l.instr ((tickStep (s.withAdc v)).withModeSel m) = .next t)
    (hu : exec l.instr (s.withModeSel m) = .next u) : t.blockView = (tickStep (u.withAdc v)).blockView := by
  have kept : u.tickView = s.tickView := by
    rw [loopStep_tickView hu]
    rfl
  have same_view : (tickStep (u.withAdc v)).tickView = (tickStep (s.withAdc v)).tickView := by
    rw [tickStep_tickView, tickStep_tickView v s, kept]
  rw [tickStep_eq_withTickView] at ht
  rw [tickStep_eq_withTickView (u.withAdc v), same_view]
  exact loopStep_withTickView (s := s.withModeSel m) (u := u) outside _ v (tickStep (s.withAdc v)).obs hu ht

/-- Settles O59: a disabled loop step changes nothing, and an enabled one is the step `lstep` names, before the TICK step
as after it. -/
theorem tickCommutesWithPrivateLoopSteps : Obligations.TickCommutesWithPrivateLoopSteps := by
  intro v m s t u outside ht hu
  obtain ⟨_, ticked, ht⟩ := runEvents_cons ht
  cases ticked
  obtain ⟨_, looped, done⟩ := runEvents_cons ht
  cases done
  obtain ⟨_, looped', hu⟩ := runEvents_cons hu
  obtain ⟨_, ticked', done⟩ := runEvents_cons hu
  cases done
  cases ticked'
  have running_eq : (tickStep (s.withAdc v)).running = s.running := by rw [tickStep_frame]; rfl
  have lstep_eq : (tickStep (s.withAdc v)).lstep = s.lstep := by rw [tickStep_frame]; rfl
  cases running : s.running with
  | false =>
    cases (exec_loop_of_idle m (running_eq.trans running)).symm.trans looped
    cases (exec_loop_of_idle m running).symm.trans looped'
    rfl
  | true =>
    have after_tick := (exec_loop_of_running m (running_eq.trans running)).symm.trans looped
    rw [lstep_eq] at after_tick
    exact tickStep_commutes outside after_tick ((exec_loop_of_running m running).symm.trans looped')

end Sys2Proof.Machine
end

section
/-! PROOFS. The startup path (70_reset_and_hazards.md rule R160, 60_exceptions.md rule R148, 44_mainloop.md rule R130):
what a reset and a START leave, and that the state after reset meets every invariant. -/

namespace Sys2Proof.Machine

/-! ### The filters a reset makes -/

theorem memRead_ofSlots {k : Nat} (v : Vector Reading (2 ^ k)) (i : BitVec k) :
    (SampleBuffer.ofSlots v).memRead i = v[i.toNat] := rfl

theorem memRead_zero {k : Nat} (i : BitVec k) : (SampleBuffer.zero k).memRead i = 0 := by
  rw [SampleBuffer.zero, memRead_ofSlots]
  simp

theorem sum_zero (k : Nat) : (SampleBuffer.zero k).sum = 0 := by simp [SampleBuffer.zero, SampleBuffer.ofSlots]

/-! ### The obligations -/

/-- Settles O52: the event is one write. -/
theorem startRule : Obligations.StartRule := fun _ => rfl

/-- Settles O53: the filters by the reset contents they are made of, every other register as `raise Reset` writes it. -/
theorem resetRule : Obligations.ResetRule := by
  intro hs s
  have baseline : (SampleBuffer.ofSlots (k := 4) s.par.fanrefInit).Wf := ofSlots_wf (k := 4) s.par.fanrefInit
  refine ⟨(s.withStrap hs).raiseReset, rfl, fun i => ⟨memRead_zero i, memRead_zero i, memRead_zero i⟩,
    fun i => ⟨memRead_zero i, rfl⟩, rfl, ?sums, baseline, rfl, rfl, rfl, rfl, rfl, rfl, rfl, rfl, rfl, rfl, rfl, rfl, rfl,
    rfl, rfl, rfl, _, rfl⟩
  case sums =>
    change ((SampleBuffer.zero 3).sum, (SampleBuffer.zero 3).sum, (SampleBuffer.zero 3).sum,
      (SampleBuffer.zero 4).sum) = _
    rw [sum_zero, sum_zero]

/-- Settles O54: what `raise Reset` takes from the state it finds is the parameters, the strap just latched and what is
left out of sight here. -/
theorem resetForgetsEverything : Obligations.ResetForgetsEverything := by
  intro hs s s' t t' par ht ht'
  cases ht
  cases ht'
  rw [raiseReset_eq, raiseReset_eq, withStrap_par, withStrap_par, par]
  rfl

theorem reset_par_wf : State.reset.par.wf = true := by
  have on_seconds : Config.params.onSecondsOk = true := decide_eq_true (Nat.le_add_left 1 _)
  rw [show State.reset.par = Config.params from rfl, Config.Params.wf, on_seconds]
  decide

/-- Settles O55: the lines at reset are those after phase 15, at a selector of 31; the count of checks starts at 0. -/
theorem resetMeetsTheInvariants : Obligations.ResetMeetsTheInvariants := by
  refine ⟨reset_filtersWf, linesFollowPhase_at_start rfl rfl rfl rfl, ⟨Nat.zero_le _, fun _ => rfl⟩, fun _ => rfl,
    linesEncodeLevel_of_both rfl rfl, ⟨0, rfl, ?marker⟩, fun _ => rfl, ?range, reset_par_wf, rfl⟩
  case marker => rw [Nat.zero_mul, Nat.zero_mod]; rfl
  case range => exact ⟨tickRange_pos _, tickRange_pos _, tickRange_pos _⟩

end Sys2Proof.Machine
end

section
/-! PROOFS. The filter as a window (40_filter.md rules R70, R71, R73). The slots read from the index on, around the end,
are the readings from the oldest to the newest; an update drops the first and appends the new one, so after a list of
readings the window is what is left of the two joined. -/

namespace Sys2Proof.Machine

/-- Settles O13: the write of one slot, and the sum as the invariant of the updated filter forces it. -/
theorem filterUpdateRule : Obligations.FilterUpdateRule := by
  intro k f v wf
  refine ⟨rfl, memRead_memWrite_same f f.idx v, fun i other => memRead_memWrite_other f v other, ?sum, ?index⟩
  case sum =>
    have wf' : (f.update v).1.sum.toNat = (f.update v).1.slotSum := update_wf f v wf
    rw [wf', wf, slotSum_update, slotSum_memWrite]
  case index => exact (BitVec.toNat_add f.idx 1).trans (by simp)

section
variable {k : Nat}

/-! ### The window -/

/-- The readings of a filter, the oldest first (10_state.md R11). -/
def SampleBuffer.window (f : SampleBuffer k) : List Reading := f.slot.toList.rotate f.idx.toNat

theorem length_window (f : SampleBuffer k) : f.window.length = 2 ^ k := by simp [SampleBuffer.window]

theorem sum_window (f : SampleBuffer k) : (f.window.map BitVec.toNat).sum = f.slotSum :=
  ((f.slot.toList.rotate_perm f.idx.toNat).map BitVec.toNat).sum_eq

/-- Writing the element a list starts from and moving the start past it takes it off the front and puts the new one at
the end. -/
theorem rotate_set (l : List Reading) (v : Reading) {i : Nat} (lt : i < l.length) :
    (l.set i v).rotate (i + 1) = (l.rotate i).tail ++ [v] := by
  have past : i + 1 = (l.take i ++ [v]).length := by simp [Nat.min_eq_left lt.le]
  calc (l.set i v).rotate (i + 1)
    _ = ((l.take i ++ [v]) ++ l.drop (i + 1)).rotate (l.take i ++ [v]).length := by
      rw [← past, List.set_eq_take_append_cons_drop, if_pos lt, List.append_assoc, List.singleton_append]
    _ = (l.drop (i + 1) ++ l.take i) ++ [v] := by rw [List.rotate_append_length_eq, List.append_assoc]
    _ = (l.rotate i).tail ++ [v] := by
      rw [List.rotate_eq_drop_append_take lt.le, List.drop_eq_getElem_cons lt, List.cons_append, List.tail_cons]

theorem window_update (f : SampleBuffer k) (v : Reading) : (f.update v).1.window = f.window.tail ++ [v] := by
  have lt : f.idx.toNat < f.slot.toList.length := by simpa using f.idx.isLt
  have index : (f.idx + 1).toNat = (f.idx.toNat + 1) % (f.slot.toList.set f.idx.toNat v).length := by
    rw [List.length_set, Vector.length_toList]
    exact (BitVec.toNat_add f.idx 1).trans (by simp)
  rw [SampleBuffer.window, update_slot, update_idx, Vector.toList_set, index, List.rotate_mod, rotate_set _ _ lt]
  rfl

theorem updates_wf (f : SampleBuffer k) (vs : List Reading) (wf : f.Wf) : (f.updates vs).Wf := by
  induction vs generalizing f with
  | nil => exact wf
  | cons v vs ih => exact ih _ (update_wf f v wf)

theorem window_updates (f : SampleBuffer k) (vs : List Reading) :
    (f.updates vs).window = (f.window ++ vs).drop vs.length := by
  induction vs generalizing f with
  | nil => simp [SampleBuffer.updates]
  | cons v vs ih =>
    have not_empty : f.window ≠ [] := List.ne_nil_of_length_pos (by rw [length_window]; exact Nat.two_pow_pos k)
    calc ((f.update v).1.updates vs).window
      _ = (f.window.tail ++ v :: vs).drop vs.length := by
        rw [ih, window_update, List.append_assoc, List.singleton_append]
      _ = (f.window ++ v :: vs).tail.drop vs.length := by rw [List.tail_append_of_ne_nil not_empty]
      _ = (f.window ++ v :: vs).drop (vs.length + 1) := List.drop_tail

theorem sum_updates {f : SampleBuffer k} (wf : f.Wf) (vs : List Reading) :
    (f.updates vs).sum.toNat = (((f.window ++ vs).drop vs.length).map BitVec.toNat).sum := by
  have wf' : (f.updates vs).sum.toNat = (f.updates vs).slotSum := updates_wf f vs wf
  rw [wf', ← sum_window, window_updates]

theorem sum_updates_of_long {f : SampleBuffer k} (wf : f.Wf) {vs : List Reading} (long : 2 ^ k ≤ vs.length) :
    (f.updates vs).sum.toNat = lastSum (2 ^ k) vs := by
  rw [sum_updates wf, List.drop_append, List.drop_eq_nil_of_le (by rw [length_window]; exact long), List.nil_append,
    length_window]
  rfl

theorem window_zero : (SampleBuffer.zero k).window = List.replicate (2 ^ k) 0 := by
  simp [SampleBuffer.window, SampleBuffer.zero, SampleBuffer.ofSlots]

theorem sum_updates_of_short {vs : List Reading} (short : vs.length ≤ 2 ^ k) :
    ((SampleBuffer.zero k).updates vs).sum.toNat = (vs.map BitVec.toNat).sum := by
  have none_over : vs.length - (List.replicate (2 ^ k) (0 : Reading)).length = 0 := by
    simpa [Nat.sub_eq_zero_iff_le] using short
  rw [sum_updates (zero_wf k), window_zero, List.drop_append, none_over, List.drop_zero, List.drop_replicate,
    List.map_append, List.sum_append, List.map_replicate]
  simp

end

/-- Settles O14: a window's length of readings leaves nothing of the old window, and of a window of zeros only zeros are
left. -/
theorem filterWindowSum : Obligations.FilterWindowSum :=
  ⟨fun _ _ _ wf long => sum_updates_of_long wf long, fun _ _ short => sum_updates_of_short short⟩

end Sys2Proof.Machine
end

section
/-! PROOFS. Runs of TICK steps (41_scheduler.md rule R91, 70_reset_and_hazards.md rule R163). With `running` set each filter
takes the readings of the ticks whose selectors are routed to it; how many they are depends on the first selector alone,
and is counted over the 32 selectors. -/

namespace Sys2Proof.Machine

/-! ### Where the readings of a run go -/

/-- The filter a selector routes the reading to (30_encoding.md R58, R60). -/
def routedTo (m : FanMode) (sel : BitVec 5) : Option BufId :=
  routeBuf (controlOf (slotClass (phaseOf sel))).route m (outerOf sel)

/-- The readings of consecutive TICK steps, the first at the given selector, that are routed to a filter. -/
def routedReadings (m : FanMode) (buf : BufId) : BitVec 5 → List Reading → List Reading
  | _, [] => []
  | sel, v :: vs =>
    if routedTo m sel = some buf then v :: routedReadings m buf (sel + 1) vs else routedReadings m buf (sel + 1) vs

/-- How many of some consecutive selectors are routed to a filter. -/
def routedCount (m : FanMode) (buf : BufId) : BitVec 5 → Nat → Nat
  | _, 0 => 0
  | sel, n + 1 => (if routedTo m sel = some buf then 1 else 0) + routedCount m buf (sel + 1) n

theorem length_routedReadings (m : FanMode) (buf : BufId) (sel : BitVec 5) (vs : List Reading) :
    (routedReadings m buf sel vs).length = routedCount m buf sel vs.length := by
  induction vs generalizing sel with
  | nil => rfl
  | cons v vs ih =>
    rw [routedReadings, List.length_cons, routedCount]
    split
    · rw [List.length_cons, ih, Nat.add_comm]
    · rw [ih, Nat.zero_add]

/-- The readings of a channel add up to the total over its phases. -/
theorem sum_routedReadings {m : FanMode} {buf : BufId} {phases : List Nat}
    (route : ∀ sel, routedTo m sel = some buf ↔ (phaseOf sel).toNat ∈ phases) (sel : BitVec 5) (vs : List Reading) :
    ((routedReadings m buf sel vs).map BitVec.toNat).sum = routedSum phases sel vs := by
  induction vs generalizing sel with
  | nil => rfl
  | cons v vs ih =>
    rw [routedReadings, routedSum, ← ih]
    by_cases here : routedTo m sel = some buf
    · rw [if_pos here, if_pos ((route sel).mp here)]
      rfl
    · rw [if_neg here, if_neg (mt (route sel).mpr here), Nat.zero_add]

theorem updates_routedReadings_cons {k : Nat} (f : SampleBuffer k) (m : FanMode) (buf : BufId) (sel : BitVec 5)
    (v : Reading) (vs : List Reading) :
    (if routedTo m sel = some buf then (f.update v).1 else f).updates (routedReadings m buf (sel + 1) vs) =
      f.updates (routedReadings m buf sel (v :: vs)) := by
  rw [routedReadings]
  split <;> rfl

/-! ### The state after a run of ticks -/

/-- A running TICK step feeds the filter its selector is routed to, and leaves what routes the next. -/
theorem tickStep_feeds {s : State} (running : s.running = true) (v : Reading) :
    ∃ (n f : Bool) (c : MuxCfg) (w : List Obs),
      tickStep (s.withAdc v) = { (s.withAdc v).feed (routedTo s.fanMode (selectorOf s.tick)) with
        emitNear := n, emitFar := f, muxCfg := c, tick := (s.tick + 1) % s.par.tickRange, obs := w } := by
  have dest : slotDest (s.withAdc v).outer (s.withAdc v).slot (s.withAdc v) = routedTo s.fanMode (selectorOf s.tick) :=
    if_pos running
  exact ⟨_, _, _, _, dest ▸ tickStep_eq (s.withAdc v)⟩

/-- Every filter has taken the readings routed to it, in order. -/
structure FedBy (s t : State) (vs : List Reading) : Prop where
  near : t.near = s.near.updates (routedReadings s.fanMode .near (selectorOf s.tick) vs)
  far : t.far = s.far.updates (routedReadings s.fanMode .far (selectorOf s.tick) vs)
  amb : t.amb = s.amb.updates (routedReadings s.fanMode .amb (selectorOf s.tick) vs)
  fanSig : t.fanSig = s.fanSig.updates (routedReadings s.fanMode .fanSig (selectorOf s.tick) vs)
  fanRef : t.fanRef = s.fanRef.updates (routedReadings s.fanMode .fanRef (selectorOf s.tick) vs)

theorem ticks_feed {s t : State} {vs : List Reading} (wf : s.par.wf = true) (running : s.running = true)
    (run : runEvents (vs.map .tick) s = .next t) : FedBy s t vs := by
  induction vs generalizing s with
  | nil =>
    cases run
    exact ⟨rfl, rfl, rfl, rfl, rfl⟩
  | cons v vs ih =>
    obtain ⟨u, hu, rest⟩ := runEvents_cons run
    cases hu
    obtain ⟨n, f, c, w, step⟩ := tickStep_feeds running v
    rw [step] at rest
    obtain ⟨near, far, amb, fanSig, fanRef⟩ := ih (by exact wf) (by exact running) rest
    rw [selectorOf_next wf] at near far amb fanSig fanRef
    constructor
    · exact near.trans (updates_routedReadings_cons s.near _ _ _ _ _)
    · exact far.trans (updates_routedReadings_cons s.far _ _ _ _ _)
    · exact amb.trans (updates_routedReadings_cons s.amb _ _ _ _ _)
    · exact fanSig.trans (updates_routedReadings_cons s.fanSig _ _ _ _ _)
    · exact fanRef.trans (updates_routedReadings_cons s.fanRef _ _ _ _ _)

theorem ticks_tick {s t : State} {v : Reading} {vs : List Reading}
    (run : runEvents ((v :: vs).map .tick) s = .next t) : t.tick = (s.tick + (v :: vs).length) % s.par.tickRange := by
  induction vs generalizing s v with
  | nil =>
    obtain ⟨u, hu, rest⟩ := runEvents_cons run
    cases rest
    cases hu
    exact tickStep_tick (s.withAdc v)
  | cons v' vs ih =>
    obtain ⟨u, hu, rest⟩ := runEvents_cons run
    cases hu
    have range : (tickStep (s.withAdc v)).par.tickRange = s.par.tickRange := by rw [tickStep_frame]; rfl
    have tick : (tickStep (s.withAdc v)).tick = (s.tick + 1) % s.par.tickRange := tickStep_tick (s.withAdc v)
    rw [ih rest, range, tick, Nat.mod_add_mod, Nat.add_assoc, Nat.add_comm 1, List.length_cons (a := v)]

/-! ### Counting updates (41_scheduler.md R91) -/

theorem updates_idx {k : Nat} (f : SampleBuffer k) (vs : List Reading) :
    (f.updates vs).idx = f.idx + BitVec.ofNat k vs.length := by
  induction vs generalizing f with
  | nil => simp [SampleBuffer.updates]
  | cons v vs ih =>
    rw [SampleBuffer.updates, List.foldl_cons, ← SampleBuffer.updates, ih, update_idx, List.length_cons, Nat.add_comm,
      BitVec.ofNat_add, BitVec.add_assoc]
    rfl

theorem routedCount_proximity (m : FanMode) : ∀ sel : BitVec 5, routedCount m .near sel 16 = 4 ∧
    routedCount m .far sel 16 = 4 ∧ routedCount m .amb sel 16 = 4 := by
  cases m <;> decide

/-- Sixteen selectors in a row hold one phase 0, whose `b` picks the fan filter in high-sensitivity mode. -/
theorem routedCount_fan (m : FanMode) : ∀ sel : BitVec 5,
    (routedCount m .fanSig sel 16 = 1 ∧ routedCount m .fanRef sel 16 = 0) ∨
      (m = .hs ∧ routedCount m .fanSig sel 16 = 0 ∧ routedCount m .fanRef sel 16 = 1) := by
  cases m <;> decide

/-- Settles O29: the indexes advance by the counts of the selectors, whatever the first. -/
theorem sixteenTicksRouteFourEach : Obligations.SixteenTicksRouteFourEach := by
  intro s t vs wf running length run
  obtain ⟨near, far, amb, fanSig, fanRef⟩ := ticks_feed wf running run
  obtain ⟨near_count, far_count, amb_count⟩ := routedCount_proximity s.fanMode (selectorOf s.tick)
  have count (buf : BufId) : (routedReadings s.fanMode buf (selectorOf s.tick) vs).length =
      routedCount s.fanMode buf (selectorOf s.tick) 16 := by rw [length_routedReadings, length]
  refine ⟨?near, ?far, ?amb, ?fan, ?tick⟩
  case near => rw [near, updates_idx, count, near_count]; rfl
  case far => rw [far, updates_idx, count, far_count]; rfl
  case amb => rw [amb, updates_idx, count, amb_count]; rfl
  case fan =>
    obtain ⟨sig_count, ref_count⟩ | ⟨hs, sig_count, ref_count⟩ := routedCount_fan s.fanMode (selectorOf s.tick)
    · refine .inl ⟨?_, ?_⟩
      · rw [fanSig, updates_idx, count, sig_count]; rfl
      · rw [fanRef, List.eq_nil_of_length_eq_zero ((count .fanRef).trans ref_count)]; rfl
    · refine .inr ⟨hs, ?_, ?_⟩
      · rw [fanSig, List.eq_nil_of_length_eq_zero ((count .fanSig).trans sig_count)]; rfl
      · rw [fanRef, updates_idx, count, ref_count]; rfl
  case tick =>
    cases vs with
    | nil => cases length
    | cons v vs => rw [ticks_tick run, length]; rfl

/-! ### Refreshing the sums (70_reset_and_hazards.md R163) -/

theorem routedCount_proximity_outer (m : FanMode) : ∀ sel : BitVec 5, routedCount m .near sel 32 = 8 ∧
    routedCount m .far sel 32 = 8 ∧ routedCount m .amb sel 32 = 8 := by
  cases m <;> decide

theorem routedTo_near (m : FanMode) (sel : BitVec 5) :
    routedTo m sel = some .near ↔ (phaseOf sel).toNat ∈ [3, 6, 9, 12] := by
  revert sel
  cases m <;> decide

theorem routedTo_far (m : FanMode) (sel : BitVec 5) :
    routedTo m sel = some .far ↔ (phaseOf sel).toNat ∈ [2, 5, 8, 11] := by
  revert sel
  cases m <;> decide

theorem routedTo_amb (m : FanMode) (sel : BitVec 5) :
    routedTo m sel = some .amb ↔ (phaseOf sel).toNat ∈ [1, 4, 7, 10] := by
  revert sel
  cases m <;> decide

/-- A filter that has taken exactly as many readings as it has slots holds their total. -/
theorem sum_updates_of_full {k : Nat} {f : SampleBuffer k} (wf : f.Wf) {vs : List Reading} (full : vs.length = 2 ^ k) :
    (f.updates vs).sum.toNat = (vs.map BitVec.toNat).sum := by
  rw [sum_updates_of_long wf full.ge, lastSum, full, Nat.sub_self, List.drop_zero]

/-- Settles O30: an outer cycle routes eight readings to each proximity filter, which fill it. -/
theorem thirtyTwoTicksRefreshTheSums : Obligations.ThirtyTwoTicksRefreshTheSums := by
  intro s t vs wf filters running length run
  obtain ⟨near, far, amb, -, -⟩ := ticks_feed wf running run
  obtain ⟨near_count, far_count, amb_count⟩ := routedCount_proximity_outer s.fanMode (selectorOf s.tick)
  have count (buf : BufId) : (routedReadings s.fanMode buf (selectorOf s.tick) vs).length =
      routedCount s.fanMode buf (selectorOf s.tick) 32 := by rw [length_routedReadings, length]
  refine ⟨?near, ?far, ?amb⟩
  case near =>
    rw [near, sum_updates_of_full filters.near ((count _).trans near_count), sum_routedReadings (routedTo_near _)]
  case far =>
    rw [far, sum_updates_of_full filters.far ((count _).trans far_count), sum_routedReadings (routedTo_far _)]
  case amb =>
    rw [amb, sum_updates_of_full filters.amb ((count _).trans amb_count), sum_routedReadings (routedTo_amb _)]

end Sys2Proof.Machine
end
